-- ==== Sys2Proof/Word.lean ====
section
/-! DEFINITION. The word types of the BD-630: the 32-bit words of the bus and of the register window, and the
16-bit and 8-bit fields that records and frames are made of. -/

namespace Sys2Proof

/-- A 32-bit word of the system bus, of a register or of a 32-bit angle. -/
abbrev Word := BitVec 32

/-- A 16-bit field of a record. -/
abbrev Half := BitVec 16

/-- One byte of a record or of a measurement frame. -/
abbrev Byte := BitVec 8

end Sys2Proof
end

