-- ==== Sys2Proof/Syntax.lean ====
section
/-! DEFINITION. The commands of the BD-630: one constructor of `Instr` for each row of spec/opcode_table.json, with
the operands the row's event brings from outside the part (register values, bus data, sampled pins). -/

namespace Sys2Proof

/-- The six lanes, lane 0 ranking highest (3, R44). -/
inductive LaneId where
  | l0 | l1 | l2 | l3 | l4 | l5
  deriving DecidableEq, Repr

/-- The three phases (R23). -/
inductive Phase where
  | A | B | C
  deriving DecidableEq, Repr

/-- One item per lane. -/
structure PerLane (α : Type) where
  l0 : α
  l1 : α
  l2 : α
  l3 : α
  l4 : α
  l5 : α
  deriving DecidableEq, Repr

/-- One item per phase. -/
structure PerPhase (α : Type) where
  a : α
  b : α
  c : α
  deriving DecidableEq, Repr

/-- The order in which the Run Controller takes a trip report, an asserted FAULT line and a measurement loss that are
present at one sample event: R158 allows any (log entry 2). -/
inductive ProtectionOrder where
  | tripFaultLoss | tripLossFault | faultTripLoss | faultLossTrip | lossTripFault | lossFaultTrip
  deriving DecidableEq, Repr

/-- What a sample event takes from outside: the levels of the pins it samples (R53, R123), and the outcome of each
order that the rules leave open within one sample event (log entry 2). -/
structure SampleInputs where
  /-- the external trigger input TRIG (R53) -/
  trig : Bool
  /-- the amplifier's READY line (R123) -/
  ready : Bool
  /-- the amplifier's FAULT line, true when asserted (R123) -/
  fault : Bool
  /-- per phase: the composer takes the relay state as it stood BEFORE the driver's work (R82) -/
  relayBefore : PerPhase Bool
  /-- which protection is taken first (R158) -/
  order : ProtectionOrder
  /-- per watch slot: at a trip or fault on a cycle start, the slot counts the cycle first (R145) -/
  watchFirst : PerLane Bool
  /-- the expiry of a bus transaction at this sample event is taken before the rest of the sample event (R15, R48) -/
  expiryFirst : Bool
  deriving DecidableEq, Repr

/-- The data of a completed read of the run-settings load (R4): the burst of header bytes 0 to 67, or the single
read of the journal read count at byte 120. -/
inductive RunSettingsData where
  | header (words : Vector Word 17)
  | readCount (word : Word)
  deriving DecidableEq, Repr

/-- A measurement frame as it arrives (R134): its bytes, whether its end marker came, and whether a soft reset acted
while it was being received (R135). -/
structure FrameArrival where
  bytes : List Byte
  ended : Bool
  acrossSoftReset : Bool
  deriving DecidableEq, Repr

/-- The commands, in the order of spec/opcode_table.json. A row that names what comes about at a sample event carries
the inputs of that sample event (log entry 1). -/
inductive Instr where
  /-- POWER_ON_RESET (R176): the release of RST with the levels of the pins MODE1 and MODE0 -/
  | powerOnReset (mode1 mode0 : Bool)
  /-- START (R150) -/
  | start
  /-- RELEASE (R154) -/
  | release
  /-- NUDGE (R5) -/
  | nudge
  /-- CLEAR (R159) -/
  | clear
  /-- SOFT_RESET (R161) -/
  | softReset
  /-- FLAGS_WRITE (R173): the word written to FLAGS -/
  | flagsWrite (value : Word)
  /-- MASK_WRITE (R174): the word written to MASK -/
  | maskWrite (value : Word)
  /-- PLANBASE_WRITE (R175): the word written to PLANBASE -/
  | planbaseWrite (value : Word)
  /-- LANE_STOP (R66): a LANECTL stop bit -/
  | laneStop (lane : LaneId)
  /-- LANE_RESUME (R67): a LANECTL resume bit -/
  | laneResume (lane : LaneId)
  /-- IGNORED_REGISTER_WRITE (R170): a write of `size` bytes at `offset` of the window -/
  | ignoredRegisterWrite (offset size : Nat) (value : Word)
  /-- SAMPLE_EVENT (R88) -/
  | sampleEvent (inputs : SampleInputs)
  /-- STOP_CARRIED_OUT (R66) -/
  | stopCarriedOut (lane : LaneId) (inputs : SampleInputs)
  /-- RELEASE_ACTED_ON (R154) -/
  | releaseActedOn (inputs : SampleInputs)
  /-- CYCLE_START (R89) -/
  | cycleStart (inputs : SampleInputs)
  /-- RESTART (R92) -/
  | restart (inputs : SampleInputs)
  /-- APPLICATION_END (R62) -/
  | applicationEnd (lane : LaneId) (inputs : SampleInputs)
  /-- GAP_END (R63) -/
  | gapEnd (lane : LaneId) (inputs : SampleInputs)
  /-- FLICKER_CHANGE (R59) -/
  | flickerChange (lane : LaneId) (inputs : SampleInputs)
  /-- SOFTSTART_COMPLETE (R78) -/
  | softstartComplete (inputs : SampleInputs)
  /-- RELEASE_RAMP_COMPLETE (R79) -/
  | releaseRampComplete (inputs : SampleInputs)
  /-- RELAY_OPERATION_COMPLETE (R128) -/
  | relayOperationComplete (phase : Phase) (inputs : SampleInputs)
  /-- ENTER_SOFTSTART (R152) -/
  | enterSoftstart (inputs : SampleInputs)
  /-- ENTER_RUNNING (R153) -/
  | enterRunning (inputs : SampleInputs)
  /-- RELEASED (R155) -/
  | released (inputs : SampleInputs)
  /-- DEFERRED_CLEAR (R159) -/
  | deferredClear (inputs : SampleInputs)
  /-- TRIP (R156) -/
  | trip (inputs : SampleInputs)
  /-- MEAS_LOST (R136) -/
  | measLost (inputs : SampleInputs)
  /-- CYCLE_SUMMARY (R140) -/
  | cycleSummary (inputs : SampleInputs)
  /-- RECOVERED (R144) -/
  | recovered (lane : LaneId) (inputs : SampleInputs)
  /-- NOT_RECOVERED (R144) -/
  | notRecovered (lane : LaneId) (inputs : SampleInputs)
  /-- MARKER_PULSE_DUE (R124) -/
  | markerPulseDue (inputs : SampleInputs)
  /-- MARKER_COUNTDOWN_END (R124) -/
  | markerCountdownEnd (inputs : SampleInputs)
  /-- MEASUREMENT_FRAME (R134) -/
  | measurementFrame (frame : FrameArrival)
  /-- ARBITER_GRANT (R16) -/
  | arbiterGrant
  /-- LOAD_COMPLETE (R151): the good response to the load's third transaction -/
  | loadComplete
  /-- SCAN_COMPLETE (R6): header bytes 96 to 123 -/
  | scanComplete (words : Vector Word 7)
  /-- CUE_FETCH_COMPLETE (R8): the cue entry's word -/
  | cueFetchComplete (word : Word)
  /-- EPISODE_FETCH_COMPLETE (R39): the nine words of the record -/
  | episodeFetchComplete (words : Vector Word 9)
  /-- SHAPE_COUNT_READ_COMPLETE (R43): the first word of the shape set -/
  | shapeCountReadComplete (word : Word)
  /-- SHAPE_COMPONENT_READ_COMPLETE (R43): the words of the components; those past the burst's length are not read -/
  | shapeComponentReadComplete (words : Vector Word 18)
  /-- TAKEN_COUNT_WRITE_BACK_COMPLETE (R10) -/
  | takenCountWriteBackComplete
  /-- JOURNAL_RECORD_WRITE_COMPLETE (R166) -/
  | journalRecordWriteComplete
  /-- WRITTEN_COUNT_WRITE_COMPLETE (R13) -/
  | writtenCountWriteComplete
  /-- BUS_ERROR_RESPONSE (R15) -/
  | busErrorResponse
  /-- BUS_WAIT_EXPIRY (R15) -/
  | busWaitExpiry (inputs : SampleInputs)
  /-- RST_HELD_LOW (R176) -/
  | rstHeldLow
  /-- RUN_SETTINGS_READ_COMPLETE (R4) -/
  | runSettingsReadComplete (data : RunSettingsData)
  deriving DecidableEq, Repr

end Sys2Proof
end

