-- ==== Sys2Proof/Decode.lean ====
section
/-! DEFINITION. Decoding: spec/opcode_table.json gives no row any bits, so no word spells a command. -/

namespace Sys2Proof

/-- The command a word spells by the bits of spec/opcode_table.json. No row of the table gives bits: the BD-630 has
no command words, and its commands are events of its pins, its bus and its register window. -/
def decodeTableWord (_nbits _w : Nat) : Option Instr := none

end Sys2Proof
end

