-- ==== Sys2Proof/Config.lean ====
section
/-! DEFINITION. The values the spec leaves open, as constants without a body: no proof can see what they are. -/

namespace Sys2Proof

/-- FREE VALUE (log entry 3). R27 and R39 report a shape set index of 32 bits as the offending index, and R164 gives
that field 16 bits; the spec does not say what the field holds for an index of 65 536 or more. -/
opaque Config.offendingIndexBeyondField : Word → Half

end Sys2Proof
end

