-- ==== Sys2Proof/Machine/State.lean ====
section
/-! DEFINITION. The state of the BD-630, block by block, as plain data: every register, count, slot, queue, mode and
pin the spec gives the part, with the queue of waiting commands, and the state after reset. -/

namespace Sys2Proof.Machine

/-! ### Run Controller (R148) -/

/-- The engine states (9). -/
inductive EngineState where
  | standby | loading | closing | softstart | running | releasing | tripped | faulted
  deriving DecidableEq, Repr

/-- A transition called for by a report of the sample event just taken (R149). -/
inductive Progress where
  | none | softstart | running | standby
  deriving DecidableEq, Repr

/-- The Run Controller's state (R148). -/
structure Control where
  engine : EngineState
  progress : Progress
  pendingRelease : Bool
  deferredClear : Bool
  /-- the FAULT line as the last sample event sampled it, true when asserted -/
  previousFault : Bool
  /-- the latched phase mode (R162) -/
  mode : BitVec 2
  deriving DecidableEq, Repr

/-! ### Loaded episodes (R21) -/

/-- The triggers, with their accepted arguments (R31). -/
inductive Trigger where
  | immediate
  | cycle
  | angle (units : Nat)
  | ext (code : Nat)
  | cascade (lane : LaneId)
  | current (code : Nat)
  deriving DecidableEq, Repr

/-- The kinds, with the validated values of each (R25 to R30). -/
inductive Kind where
  | level (target : Nat)
  | openCircuit
  | shape (setIndex : Nat)
  | flicker (depth rate interval : Nat)
  | freq (target slew : Nat)
  | jump (units : Int) (offset : Word)
  | dwell
  | mark (tag : Half)
  deriving DecidableEq, Repr

/-- One component of a loaded shape set (R37). -/
structure Component where
  order : Nat
  amplitude : Nat
  phase : Nat
  deriving DecidableEq, Repr

/-- The watch part of an episode (R36). -/
structure WatchPart where
  band : Nat
  hold : Nat
  limit : Nat
  deriving DecidableEq, Repr

/-- A loaded episode (R21). -/
structure Episode where
  index : Nat
  kind : Kind
  /-- the effective mask (R23) -/
  mask : PerPhase Bool
  /-- the reference phase of the episode (R24) -/
  reference : Phase
  trigger : Trigger
  duration : Nat
  /-- entry′, hold and exit′ (R42) -/
  entry : Nat
  hold : Nat
  exit : Nat
  repeatCount : Nat
  repeatGap : Nat
  markOut : Bool
  next : Option Nat
  watch : Option WatchPart
  /-- the loaded component list; empty for every kind but SHAPE -/
  components : List Component
  clamped : Bool
  rampCut : Bool
  deriving DecidableEq, Repr

/-! ### Lanes (R44) -/

/-- The lane states (R45). -/
inductive LaneState where
  | idle | fetching | waiting | active | gap | halted
  deriving DecidableEq, Repr

/-- The stages of an application (R57). -/
inductive Stage where
  | entry | hold | exit
  deriving DecidableEq, Repr

/-- The causes of PLAN_REFUSED and LANE_HALTED (R164). -/
inductive Refused where
  | unknownKind | emptyMask | badTrigger | indexRange | badShape | cueCount | bus | stopped
  deriving DecidableEq, Repr

/-- A lane's next slot (R44). A REFUSED slot holds its cause and the index LANE_HALTED will carry (R48). -/
inductive NextSlot where
  | empty
  | fetching
  | loaded (episode : Episode)
  | refused (cause : Refused) (index : Half)
  deriving DecidableEq, Repr

/-- The reads by which a lane brings an episode in (R8, R11), with what the read before gave. -/
inductive Fetch where
  | cue
  | episode (index : Nat)
  | shapeCount (episode : Episode)
  | shapeComponents (episode : Episode) (count : Nat)
  deriving DecidableEq, Repr

/-- A lane (R44). `request` is its fetch request waiting at the arbiter (R16). `evaluated` records that the trigger
has been evaluated since WAITING was reached, which R49 needs (log entry 12). -/
structure Lane where
  state : LaneState
  stage : Option Stage
  current : Option Episode
  next : NextSlot
  request : Option Fetch
  application : Nat
  /-- the 64-bit advance accumulator -/
  advance : BitVec 64
  late : Bool
  evaluationMark : Bool
  evaluated : Bool
  /-- start value S, envelope E and exit origin X, per phase -/
  start : PerPhase Int
  envelope : PerPhase Int
  exitOrigin : PerPhase Int
  /-- flicker factor M and its change countdown -/
  factor : Nat
  countdown : Nat
  /-- minimum and maximum RMS voltage; 0xFFFF is the "no cycle" state of R61 -/
  rmsMin : Nat
  rmsMax : Nat
  clips : Nat
  iref : Nat
  pendingStop : Bool
  deriving DecidableEq, Repr

/-! ### Plan Port (R15 to R18) -/

/-- What the transaction in flight is for (R4, R6, R8, R10, R11, R13). -/
inductive BusKind where
  | loadHeader
  | loadReadCount (header : Vector Word 17)
  | loadWriteCount (header : Vector Word 17) (readCount : Word)
  | journalRecord (dropsTaken : Nat)
  | journalCount
  | laneFetch (lane : LaneId) (fetch : Fetch) (wanted : Bool)
  | takenCount (lane : LaneId) (value : Word)
  | writtenCount
  | scan
  deriving DecidableEq, Repr

/-- The transaction in the slot (R15): the base it took, its bus address, whether it writes, its length in words, the
words it writes, its wait timer, and whether a soft reset has acted on it (R19). -/
structure Transaction where
  kind : BusKind
  base : Word
  address : Word
  writes : Bool
  length : Nat
  data : List Word
  timer : Nat
  orphan : Bool
  deriving DecidableEq, Repr

/-- The Plan Port (R1 to R20). -/
structure Port where
  planBase : Word
  episodeOffset : Word
  shapeOffset : Word
  cueOffset : Word
  journalOffset : Word
  episodeCount : Nat
  shapeCount : Nat
  posted : PerLane Word
  readCount : Word
  taken : PerLane Word
  written : Word
  takenOwed : PerLane Bool
  takenRequest : PerLane Bool
  writtenOwed : Bool
  writtenRequest : Bool
  loadRequest : Bool
  scanRequest : Bool
  jbad : Bool
  /-- the transaction slot: none is IDLE -/
  slot : Option Transaction
  deriving DecidableEq, Repr

/-! ### Phase Composer (R72, R77 to R81) -/

/-- The thirteen claim sets (R72), each as one mark per lane. -/
structure Claims where
  level : PerPhase (PerLane Bool)
  shape : PerPhase (PerLane Bool)
  flicker : PerPhase (PerLane Bool)
  jump : PerPhase (PerLane Bool)
  freq : PerLane Bool
  deriving DecidableEq, Repr

/-- The Phase Composer. `closeCommand` is the relay command of each phase, true for close. -/
structure Composer where
  claims : Claims
  steady : PerPhase Nat
  softLength : Nat
  releaseLength : Nat
  lastComposed : PerPhase Int
  softAdvance : Nat
  releaseAdvance : Nat
  releaseOrigin : PerPhase Int
  rampRunning : Bool
  rampComplete : Bool
  closeCommand : PerPhase Bool
  deriving DecidableEq, Repr

/-! ### Timebase (R87) -/

/-- A restart that the next sample event takes (R92), with the values it takes. -/
inductive RestartDue where
  | none | afterReset | afterLoad
  deriving DecidableEq, Repr

/-- The Timebase (R87). The `latched` fields are those of the last completed load, in effect from its restart (R93). -/
structure Timebase where
  theta : Word
  previous : Word
  frequency : Nat
  increment : Nat
  nominal : Nat
  returnSlew : Nat
  offsets : PerPhase Word
  cycle : Word
  sample : Nat
  latchedNominal : Nat
  latchedSlew : Nat
  latchedOffsetB : Nat
  latchedOffsetC : Nat
  restartDue : RestartDue
  deriving DecidableEq, Repr

/-! ### Waveform Synthesizer (R103), Drive Link (R119 to R124), Relay Driver (R126) -/

/-- The Waveform Synthesizer (R103); its sine table is `Machine.sineTable`. -/
structure Synth where
  peak : PerPhase Nat
  ceiling : Nat
  cycleClips : PerPhase Nat
  deriving DecidableEq, Repr

/-- The Drive Link: its two frame buffers and which of them the next sample event writes (R120), the three words
being shifted, the strobe of the last sample event and the words last strobed (R119), the sampled status lines (R123),
and the marker line with its countdown and the requests of the two sample events before (R124). -/
structure Link where
  buffer0 : PerPhase Int
  buffer1 : PerPhase Int
  writesBuffer1 : Bool
  shifting : Option (PerPhase (BitVec 24))
  strobe : Bool
  strobed : Option (PerPhase (BitVec 24))
  ready : Bool
  fault : Bool
  marker : Bool
  markerCount : Nat
  /-- a pulse was requested at the last sample event -/
  markerRequest1 : Bool
  /-- a pulse was requested at the sample event before the last -/
  markerRequest2 : Bool
  deriving DecidableEq, Repr

/-- The relay states (R126). -/
inductive RelayState where
  | opened | closing | closed | opening
  deriving DecidableEq, Repr

/-- One relay (R126). -/
structure Relay where
  state : RelayState
  remaining : Nat
  openSpan : Nat
  deriving DecidableEq, Repr

/-- The Relay Driver (R126). -/
structure Relays where
  relay : PerPhase Relay
  closeTime : Nat
  openTime : Nat
  deriving DecidableEq, Repr

/-! ### Measurement Unit (R134 to R141) and Recovery Watch (R142) -/

/-- The six channel codes of a measurement frame (R134). -/
structure Codes where
  v : PerPhase Int
  i : PerPhase Int
  deriving DecidableEq, Repr

/-- The delivered cycle figures (R138), with the cycle clip counts handed over with them (R113). -/
structure Figures where
  rmsV : PerPhase Nat
  rmsI : PerPhase Nat
  peakI : PerPhase Nat
  stale : Nat
  clips : PerPhase Nat
  deriving DecidableEq, Repr

/-- The Measurement Unit. -/
structure Measure where
  holder : Option Codes
  lastGood : Codes
  liveStale : Nat
  sumV : PerPhase Nat
  sumI : PerPhase Nat
  count : Nat
  peakI : PerPhase Nat
  cycleStale : Nat
  figures : Figures
  tripCode : Nat
  tripCount : Nat
  summaryPeriod : Nat
  currentFloor : Nat
  summaryCounter : Nat
  runCount : PerPhase Nat
  runPeak : PerPhase Nat
  deriving DecidableEq, Repr

/-- A watch slot (R142): ARMED or IDLE, and what it holds. -/
structure Watch where
  armed : Bool
  episode : Nat
  reference : Phase
  iref : Nat
  part : WatchPart
  cycles : Nat
  inBand : Nat
  runStart : Nat
  lastRms : Option Nat
  deriving DecidableEq, Repr

/-! ### Journal Writer (R164 to R167) and Register Window (R170) -/

/-- The outcomes of a WATCH_RESULT (R146). -/
inductive WatchOutcome where
  | recovered | notRecovered | noReference | superseded | abandoned
  deriving DecidableEq, Repr

/-- The causes of an ENGINE record (R163). -/
inductive EngineCause where
  | start | loaded | startRefused | closed | softstartDone | release | released | trip | fault | measLost | clear
  deriving DecidableEq, Repr

/-- The reason of a START_REFUSED (R151). -/
inductive RefusalReason where
  | none | notReady | bus
  deriving DecidableEq, Repr

/-- The kind of a record with its detail bits or cause and its payload (R164). -/
inductive RecordBody where
  | episodeStart (clamped rampCut late : Bool) (start : PerPhase Half) (iref application : Half)
  | episodeEnd (cut stretched : Bool) (rmsMin rmsMax : Half) (clips openSpan : Word) (application : Half)
  | watchResult (outcome : WatchOutcome) (cycles lastRms iref : Half)
  | cycleSummary (clipped : PerPhase Bool) (rmsV rmsI peakI : PerPhase Half) (stale : Half)
  | planRefused (cause : Refused) (offending : Half)
  | laneHalted (cause : Refused)
  | engine (cause : EngineCause) (newState : EngineState) (reason : RefusalReason) (phase : Option Phase) (peak : Half)
  | marker (tag : Half)
  deriving DecidableEq, Repr

/-- A journal record (R164): its head and its body. `lane` is none for the lane code 255. -/
structure Record where
  lane : Option LaneId
  gap : Byte
  cycle : Word
  sample : Half
  episode : Half
  body : RecordBody
  deriving DecidableEq, Repr

/-- The Journal Writer: the pending queue, oldest first, and the drop count (R165, R167). -/
structure Journal where
  queue : List Record
  drops : Nat
  deriving DecidableEq, Repr

/-- The Register Window's own registers and the two host lines (R170, R173, R174). -/
structure Window where
  flags : Word
  mask : Word
  alert : Bool
  notice : Bool
  deriving DecidableEq, Repr

/-! ### The whole part -/

/-- The state of the part, with the queue of commands that wait, first in, first out. -/
structure State where
  /-- the RST pin is held low (R176) -/
  rstLow : Bool
  control : Control
  port : Port
  lanes : PerLane Lane
  /-- the EXT detectors' previous level of TRIG; none after a reset (R53) -/
  previousTrig : Option Bool
  composer : Composer
  timebase : Timebase
  synth : Synth
  link : Link
  relays : Relays
  measure : Measure
  watches : PerLane Watch
  journal : Journal
  window : Window
  pending : List Instr
  deriving DecidableEq, Repr

/-- The reasons for which the machine stops with a fault: there are none. Every event of the BD-630 has an effect,
so no command faults. -/
inductive Fault where
  deriving DecidableEq, Repr

/-- The reasons for which a command is turned away without a meaning. -/
inductive Refusal where
  /-- raised by `exec` for a command that has no meaning yet; safe, the machine stops -/
  | notModelled (mnemonic : String)
  /-- raised by IGNORED_REGISTER_WRITE for an offset and size that are not a write R170 ignores (the command is
  ill-formed, so no write of the window is that command); safe, the machine stops -/
  | notAnIgnoredWrite
  deriving DecidableEq, Repr

/-! ### The state after reset -/

/-- The same item for every lane. -/
def perLane {α : Type} (x : α) : PerLane α := ⟨x, x, x, x, x, x⟩

/-- The same item for every phase. -/
def perPhase {α : Type} (x : α) : PerPhase α := ⟨x, x, x⟩

/-- The controller after power-on reset (R148). -/
def Control.reset (mode : BitVec 2) : Control :=
  { engine := .standby, progress := .none, pendingRelease := false, deferredClear := false, previousFault := false,
    mode := mode }

/-- A lane after power-on reset, after soft reset and at START (R71). -/
def Lane.reset : Lane :=
  { state := .idle, stage := none, current := none, next := .empty, request := none, application := 0, advance := 0,
    late := false, evaluationMark := false, evaluated := false, start := perPhase 0, envelope := perPhase 0,
    exitOrigin := perPhase 0, factor := 0, countdown := 0, rmsMin := 0, rmsMax := 0, clips := 0, iref := 0,
    pendingStop := false }

/-- The Plan Port after power-on reset (R18). -/
def Port.reset : Port :=
  { planBase := 0, episodeOffset := 0, shapeOffset := 0, cueOffset := 0, journalOffset := 0, episodeCount := 0,
    shapeCount := 0, posted := perLane 0, readCount := 0, taken := perLane 0, written := 0,
    takenOwed := perLane false, takenRequest := perLane false, writtenOwed := false, writtenRequest := false,
    loadRequest := false, scanRequest := false, jbad := false, slot := none }

/-- The thirteen claim sets, all empty (R85). -/
def Claims.none : Claims :=
  { level := perPhase (perLane false), shape := perPhase (perLane false), flicker := perPhase (perLane false),
    jump := perPhase (perLane false), freq := perLane false }

/-- The Phase Composer after power-on reset and after soft reset (R85). -/
def Composer.reset : Composer :=
  { claims := Claims.none, steady := perPhase 0, softLength := 0, releaseLength := 0, lastComposed := perPhase 0,
    softAdvance := 0, releaseAdvance := 0, releaseOrigin := perPhase 0, rampRunning := false, rampComplete := false,
    closeCommand := perPhase false }

/-- The nominal offsets of a mode with no load made: R96's for modes 0 to 2, 0 in mode 3 and for an absent phase. -/
def resetOffsets (mode : BitVec 2) : PerPhase Word :=
  if mode = 1 then ⟨0, 2147483648, 0⟩
  else if mode = 2 then ⟨0, 2863311531, 1431655765⟩
  else ⟨0, 0, 0⟩

/-- The Timebase after power-on reset and after soft reset (R87), its restart due at the next sample event (R92). -/
def Timebase.reset (mode : BitVec 2) : Timebase :=
  { theta := 0, previous := 0, frequency := 50000, increment := 8388608, nominal := 50000, returnSlew := 0,
    offsets := resetOffsets mode, cycle := 0, sample := 0, latchedNominal := 50000, latchedSlew := 0,
    latchedOffsetB := 0, latchedOffsetC := 0, restartDue := .afterReset }

/-- The Waveform Synthesizer after either reset (R103). -/
def Synth.reset : Synth := { peak := perPhase 0, ceiling := 0, cycleClips := perPhase 0 }

/-- The Drive Link after power-on reset (R120, R124). DESIGN CHOICE (log entry 31): R120 does not say where the count k
of sample events starts, so which buffer the first sample event writes is open; the model takes buffer 0. What was
strobed and the sampled levels are log entry 4's. -/
def Link.reset : Link :=
  { buffer0 := perPhase 0, buffer1 := perPhase 0, writesBuffer1 := false, shifting := none, strobe := false,
    strobed := none, ready := false, fault := false, marker := false, markerCount := 0, markerRequest1 := false,
    markerRequest2 := false }

/-- The Relay Driver after either reset (R126). -/
def Relays.reset : Relays :=
  { relay := perPhase { state := .opened, remaining := 0, openSpan := 0 }, closeTime := 26, openTime := 26 }

/-- Cycle figures that are all 0 (R139). -/
def Figures.zero : Figures :=
  { rmsV := perPhase 0, rmsI := perPhase 0, peakI := perPhase 0, stale := 0, clips := perPhase 0 }

/-- The Measurement Unit after either reset (R135 to R141). -/
def Measure.reset : Measure :=
  { holder := none, lastGood := { v := perPhase 0, i := perPhase 0 }, liveStale := 0, sumV := perPhase 0,
    sumI := perPhase 0, count := 0, peakI := perPhase 0, cycleStale := 0, figures := Figures.zero, tripCode := 0,
    tripCount := 1, summaryPeriod := 0, currentFloor := 0, summaryCounter := 0, runCount := perPhase 0,
    runPeak := perPhase 0 }

/-- An IDLE watch slot (R142); what an IDLE slot holds after a reset and at START is the model's choice (log entry 4).
-/
def Watch.idle : Watch :=
  { armed := false, episode := 0, reference := .A, iref := 0, part := { band := 0, hold := 0, limit := 0 },
    cycles := 0, inBand := 0, runStart := 0, lastRms := none }

/-- The Journal Writer after either reset (R168). -/
def Journal.reset : Journal := { queue := [], drops := 0 }

/-- The Register Window after either reset (R170). -/
def Window.reset : Window := { flags := 0, mask := 0, alert := false, notice := false }

/-- The part after power-on reset with the given mode latched and the given commands waiting (R176). -/
def State.powerOn (mode : BitVec 2) (pending : List Instr) : State :=
  { rstLow := false, control := Control.reset mode, port := Port.reset, lanes := perLane Lane.reset,
    previousTrig := none, composer := Composer.reset, timebase := Timebase.reset mode, synth := Synth.reset,
    link := Link.reset, relays := Relays.reset, measure := Measure.reset, watches := perLane Watch.idle,
    journal := Journal.reset, window := Window.reset, pending := pending }

/-- The part right after reset: power-on reset with both mode pins low (log entry 4), no command waiting. -/
def State.reset : State := State.powerOn 0 []

end Sys2Proof.Machine
end

