-- ==== Sys2Proof/Machine/Index.lean ====
section
/-! DEFINITION. Reading and writing one lane's or one phase's item, and the orders in which rules take the lanes
(lane 0 first) and the phases (A, B, C). -/

namespace Sys2Proof.Machine

/-- The lanes, lowest number first (R16, R165). -/
def allLanes : List LaneId := [.l0, .l1, .l2, .l3, .l4, .l5]

/-- The phases in the order A, B, C (R24, R141). -/
def allPhases : List Phase := [.A, .B, .C]

/-- The number of a lane. -/
def laneNumber : LaneId → Nat
  | .l0 => 0 | .l1 => 1 | .l2 => 2 | .l3 => 3 | .l4 => 4 | .l5 => 5

/-- The lane of a number 0 to 5. -/
def laneOfNumber? : Nat → Option LaneId
  | 0 => some .l0 | 1 => some .l1 | 2 => some .l2 | 3 => some .l3 | 4 => some .l4 | 5 => some .l5
  | _ => none

/-- The item of a lane. -/
def getLane {α : Type} (v : PerLane α) : LaneId → α
  | .l0 => v.l0 | .l1 => v.l1 | .l2 => v.l2 | .l3 => v.l3 | .l4 => v.l4 | .l5 => v.l5

/-- Replace the item of a lane. -/
def setLane {α : Type} (v : PerLane α) (k : LaneId) (x : α) : PerLane α :=
  match k with
  | .l0 => { v with l0 := x }
  | .l1 => { v with l1 := x }
  | .l2 => { v with l2 := x }
  | .l3 => { v with l3 := x }
  | .l4 => { v with l4 := x }
  | .l5 => { v with l5 := x }

/-- An item for each lane from its number. -/
def tabLane {α : Type} (f : LaneId → α) : PerLane α := ⟨f .l0, f .l1, f .l2, f .l3, f .l4, f .l5⟩

/-- The item of a phase. -/
def getPhase {α : Type} (v : PerPhase α) : Phase → α
  | .A => v.a | .B => v.b | .C => v.c

/-- Replace the item of a phase. -/
def setPhase {α : Type} (v : PerPhase α) (x : Phase) (y : α) : PerPhase α :=
  match x with
  | .A => { v with a := y }
  | .B => { v with b := y }
  | .C => { v with c := y }

/-- An item for each phase. -/
def tabPhase {α : Type} (f : Phase → α) : PerPhase α := ⟨f .A, f .B, f .C⟩

/-- The present phases of a mode (R23). -/
def present (mode : BitVec 2) : Phase → Bool
  | .A => true
  | .B => !(mode == 0)
  | .C => mode == 2 || mode == 3

/-- The lowest-numbered marked lane: the owner of a claim set (R74), the first request served (R16). -/
def lowestLane (v : PerLane Bool) : Option LaneId := allLanes.find? (getLane v)

end Sys2Proof.Machine
end

