-- ==== Sys2Proof/Machine/Arith.lean ====
section
/-! DEFINITION. The integer arithmetic of the manual: its rounding words, the conversions of angles, clamping, and
the square root of the cycle figures. -/

namespace Sys2Proof.Machine

/-- 2^32: a full cycle of a 32-bit angle. -/
def fullCycle : Nat := 4294967296

/-- trunc(n / d): the quotient rounded toward zero (00, rounding words). -/
def truncDiv (n : Int) (d : Nat) : Int := Int.tdiv n d

/-- floor(n / d) for a positive divisor (00, rounding words). -/
def floorDiv (n : Int) (d : Nat) : Int := Int.fdiv n d

/-- round(n / d) for a positive divisor, half away from zero (00, rounding words). -/
def roundDiv (n : Int) (d : Nat) : Int :=
  if 0 ≤ n then floorDiv (2 * n + d) (2 * d) else -floorDiv (2 * (-n) + d) (2 * d)

/-- Angle units to a 32-bit angle: floor(u × 2^32 / 3600), modulo 2^32 (R98, R52). -/
def unitsToAngle (u : Nat) : Word := BitVec.ofNat 32 (u * fullCycle / 3600)

/-- Signed angle units to a 32-bit offset: floor(u × 2^32 / 3600), modulo 2^32 (R30). -/
def jumpOffset (u : Int) : Word := BitVec.ofInt 32 (floorDiv (u * fullCycle) 3600)

/-- An advance sum to angle units: floor(s × 3600 / 2^32) (R98, R57). -/
def advanceUnits (s : Nat) : Nat := s * 3600 / fullCycle

/-- The per-sample increment of a frequency in mHz: floor(F × 2^32 / 25 600 000 + 1/2) (R90). -/
def incrementOf (mHz : Nat) : Nat := (2 * mHz * fullCycle + 25600000) / 51200000

/-- A value brought into a range (R41, R93). -/
def clampNat (lo hi n : Nat) : Nat := if n < lo then lo else if hi < n then hi else n

/-- A signed value brought into a range (R41). -/
def clampInt (lo hi n : Int) : Int := if n < lo then lo else if hi < n then hi else n

/-- A point of a ramp: x + trunc((y − x) × p / n) (R58, R78, R79). -/
def rampPoint (x y : Int) (p n : Nat) : Int := x + truncDiv ((y - x) * p) n

/-- One bit of the square root, from the bit of weight 2^b down. -/
def isqrtBits (n : Nat) : Nat → Nat → Nat
  | 0, r => r
  | b + 1, r => isqrtBits n b (if (r + 2 ^ b) * (r + 2 ^ b) ≤ n then r + 2 ^ b else r)

/-- The largest integer whose square does not exceed n, for n below 2^32 (R138). -/
def isqrt (n : Nat) : Nat := isqrtBits n 16 0

/-- The magnitude of a measurement code (R137). -/
def magnitude (x : Int) : Nat := x.natAbs

/-- A 32-bit angle of a sum of angles at full width. -/
def angleOf (n : Nat) : Word := BitVec.ofNat 32 n

end Sys2Proof.Machine
end

