-- ==== Sys2Proof/Machine/Flags.lean ====
section
/-! DEFINITION. The sticky flags, MASK and the lines ALERT and NOTICE (R173, R174). -/

namespace Sys2Proof.Machine

/-- The six flags, in the order of their bits (R173). -/
inductive Flag where
  | journal | plan | bus | trip | fault | run
  deriving DecidableEq, Repr

/-- A flag's bit of FLAGS (R173). -/
def flagBit : Flag → Nat
  | .journal => 0 | .plan => 1 | .bus => 2 | .trip => 3 | .fault => 4 | .run => 5

/-- The word with a flag's bit alone. -/
def flagWord (f : Flag) : Word := 1#32 <<< flagBit f

/-- The bits of FLAGS that are flags. -/
def flagBits : Word := 0x3F#32

/-- The bits of MASK that are held: enables and line choices (R174). -/
def maskBits : Word := 0x3F3F#32

/-- ALERT's condition: a set flag that is enabled with line choice 0 (R174). -/
def alertCondition (flags mask : Word) : Bool := flags &&& mask &&& ~~~(mask >>> 8) &&& flagBits != 0

/-- NOTICE's condition: a set flag that is enabled with line choice 1 (R174). -/
def noticeCondition (flags mask : Word) : Bool := flags &&& mask &&& (mask >>> 8) &&& flagBits != 0

/-- FLAGS and MASK with both lines following their conditions at the change (R174). -/
def Window.drive (flags mask : Word) : Window :=
  { flags := flags, mask := mask, alert := alertCondition flags mask, notice := noticeCondition flags mask }

/-- Set a flag (R173). -/
def Window.setFlag (w : Window) (f : Flag) : Window := Window.drive (w.flags ||| flagWord f) w.mask

/-- Set a flag when a condition holds. -/
def Window.setFlagIf (w : Window) (b : Bool) (f : Flag) : Window := if b then w.setFlag f else w

/-- A write to FLAGS clears each flag whose bit is written 0 and sets none (R173). -/
def Window.writeFlags (w : Window) (value : Word) : Window := Window.drive (w.flags &&& value) w.mask

/-- A write to MASK (R174). -/
def Window.writeMask (w : Window) (value : Word) : Window := Window.drive w.flags (value &&& maskBits)

/-- Whether a flag is set. -/
def Window.has (w : Window) (f : Flag) : Bool := w.flags.getLsbD (flagBit f)

end Sys2Proof.Machine
end

