-- ==== Sys2Proof/Machine/Operands.lean ====
section
/-! DEFINITION. The operands the bus brings: fields of header, cue entry, episode record and shape set words, and the
validation and clamping of what they hold (R2, R22 to R43). -/

namespace Sys2Proof.Machine

/-- The byte at an offset of a burst of little-endian words (00, byte order). -/
def byteAt (ws : List Word) (offset : Nat) : Byte :=
  (ws.getD (offset / 4) 0).extractLsb' (8 * (offset % 4)) 8

/-- The unsigned 8-bit field at an offset. -/
def u8 (ws : List Word) (offset : Nat) : Nat := (byteAt ws offset).toNat

/-- The unsigned little-endian 16-bit field at an offset. -/
def u16 (ws : List Word) (offset : Nat) : Nat := u8 ws offset + 256 * u8 ws (offset + 1)

/-- The unsigned little-endian 32-bit field at an offset. -/
def u32 (ws : List Word) (offset : Nat) : Nat := u16 ws offset + 65536 * u16 ws (offset + 2)

/-- The two's complement 32-bit field at an offset. -/
def s32 (ws : List Word) (offset : Nat) : Int := (BitVec.ofNat 32 (u32 ws offset)).toInt

/-- An index carried in a 16-bit field of a record; an index of 65 536 or more leaves a free value there (log 3). -/
def halfIndex (n : Nat) : Half :=
  if n < 65536 then BitVec.ofNat 16 n else Config.offendingIndexBeyondField (BitVec.ofNat 32 n)

/-- The episode index of a record that names none (R164). -/
def noEpisode : Half := 0xFFFF#16

/-- The bit of a phase in a phase mask byte (R23). -/
def phaseBit : Phase → Nat
  | .A => 0 | .B => 1 | .C => 2

/-- The effective mask: the phases the mask byte names that the mode has (R23). -/
def effectiveMask (mode : BitVec 2) (mask : Byte) : PerPhase Bool :=
  tabPhase fun x => mask.getLsbD (phaseBit x) && present mode x

/-- Whether a mask names no phase. -/
def maskEmpty (m : PerPhase Bool) : Bool := !m.a && !m.b && !m.c

/-- The reference phase of an episode: the first phase of its effective mask, or A (R24). -/
def referenceOf (m : PerPhase Bool) : Phase :=
  if m.a then .A else if m.b then .B else if m.c then .C else .A

/-- The trigger of a type byte and an argument, none where R31 refuses with BAD_TRIGGER. -/
def triggerOf (type arg : Nat) : Option Trigger :=
  match type with
  | 0 => some .immediate
  | 1 => some .cycle
  | 2 => if arg < 3600 then some (.angle arg) else none
  | 3 => if arg ≤ 3 then some (.ext arg) else none
  | 4 => (laneOfNumber? arg).map .cascade
  | 5 => some (.current arg)
  | _ => none

/-- The change interval of a flicker rate: round(1 536 000 / rate), half up (R28). -/
def flickerInterval (rate : Nat) : Nat := (2 * 1536000 + rate) / (2 * rate)

/-- The kind of a known code with its values brought into range, and whether a value was clamped (R26 to R30, R41). -/
def kindOf (code : Nat) (value1 : Int) (value2 : Nat) : Option (Kind × Bool) :=
  match code with
  | 1 =>
    let t := clampInt 0 20000 value1
    some (.level t.toNat, t != value1)
  | 2 => some (.openCircuit, false)
  | 3 => some (.shape value2, false)
  | 4 =>
    let d := clampInt 0 2000 value1
    let r := clampNat 1 3000 value2
    some (.flicker d.toNat r (flickerInterval r), d != value1 || r != value2)
  | 5 =>
    let f := clampInt 45000 65000 value1
    some (.freq f.toNat value2, f != value1)
  | 6 =>
    let j := clampInt (-1800) 1800 value1
    some (.jump j (jumpOffset j), j != value1)
  | 7 => some (.dwell, false)
  | 8 => some (.mark (BitVec.ofInt 16 value1), false)
  | _ => none

/-- The kinds that claim on the phases of the mask, which an empty mask refuses (R23). -/
def Kind.claimsPhases : Kind → Bool
  | .level _ => true
  | .openCircuit => true
  | .shape _ => true
  | .flicker _ _ _ => true
  | .jump _ _ => true
  | .freq _ _ => false
  | .dwell => false
  | .mark _ => false

/-- entry′, hold, exit′ and RAMP_CUT of a LEVEL episode (R42). -/
def cutRamps (duration entryRamp exitRamp : Nat) : Nat × Nat × Nat × Bool :=
  let entry := min entryRamp duration
  let exit := min exitRamp (duration - entry)
  (entry, duration - entry - exit, exit, entry != entryRamp || exit != exitRamp)

/-- The watch part with its values brought into range, and whether one was clamped (R36, R41). -/
def watchPartOf (band hold limit : Nat) : WatchPart × Bool :=
  let p : WatchPart := { band := clampNat 1 100 band, hold := max 1 hold, limit := max 1 limit }
  (p, p.band != band || p.hold != hold || p.limit != limit)

/-- The loaded episode of a record that has passed R39, with R41's clamps and R42's cuts; the component list of a
SHAPE episode is still empty. DESIGN CHOICE (log entry 35): R21 gives every loaded episode a repeat gap, and with a
repeat count of 1 the field is not read (R22, R34); the gap held is then 0. -/
def loadEpisode (mode : BitVec 2) (index : Nat) (ws : List Word) (kind : Kind) (kindClamped : Bool)
    (trigger : Trigger) : Episode :=
  let options := byteAt ws 1
  let mask := effectiveMask mode (byteAt ws 2)
  let duration := u32 ws 16
  let ramps : Nat × Nat × Nat × Bool :=
    match kind with
    | .level _ => cutRamps duration (u16 ws 20) (u16 ws 22)
    | _ => (0, duration, 0, false)
  let repeats := min (u16 ws 24) 4095
  let watched : Option (WatchPart × Bool) :=
    if options.getLsbD 1 then some (watchPartOf (u8 ws 30) (u8 ws 31) (u16 ws 32)) else none
  { index := index
    kind := kind
    mask := mask
    reference := referenceOf mask
    trigger := trigger
    duration := duration
    entry := ramps.1
    hold := ramps.2.1
    exit := ramps.2.2.1
    repeatCount := repeats
    repeatGap := if u16 ws 24 = 1 then 0 else u16 ws 26
    markOut := options.getLsbD 2
    next := if options.getLsbD 0 then some (u16 ws 28) else none
    watch := watched.map Prod.fst
    components := []
    clamped := kindClamped || repeats != u16 ws 24 || (watched.map Prod.snd).getD false
    rampCut := ramps.2.2.2 }

/-- The tests of R39 on an episode record, in its order: a refusal with its offending index, or the loaded episode. -/
def validateRecord (mode : BitVec 2) (episodeCount shapeCount index : Nat) (ws : List Word) :
    Except (Refused × Half) Episode :=
  match kindOf (u8 ws 0) (s32 ws 8) (u32 ws 12) with
  | none => .error (.unknownKind, halfIndex index)
  | some (kind, clamped) =>
    if kind.claimsPhases && maskEmpty (effectiveMask mode (byteAt ws 2)) then .error (.emptyMask, halfIndex index)
    else
      match triggerOf (u8 ws 3) (u32 ws 4) with
      | none => .error (.badTrigger, halfIndex index)
      | some trigger =>
        if (byteAt ws 1).getLsbD 0 && decide (episodeCount ≤ u16 ws 28) then
          .error (.indexRange, halfIndex (u16 ws 28))
        else
          match kind with
          | .shape j =>
            if shapeCount ≤ j then .error (.indexRange, halfIndex j)
            else .ok (loadEpisode mode index ws kind clamped trigger)
          | _ => .ok (loadEpisode mode index ws kind clamped trigger)

/-- The length in words of a shape component read: ceil(6c / 4) (R11). -/
def componentWords (count : Nat) : Nat := (6 * count + 3) / 4

/-- Component m as it stands in a component read (R37). -/
def componentAt (ws : List Word) (m : Nat) : Component :=
  { order := u16 ws (6 * m), amplitude := u16 ws (6 * m + 2), phase := u16 ws (6 * m + 4) }

/-- A component with its amplitude and phase brought into range (R41, R43). -/
def clampComponent (c : Component) : Component :=
  { c with amplitude := min c.amplitude 3000, phase := c.phase % 3600 }

/-- The component read of R43: none for an order outside 2 to 40, or the loaded components and whether one was
clamped. -/
def loadComponents (ws : List Word) (count : Nat) : Option (List Component × Bool) :=
  let read := (List.range count).map (componentAt ws)
  if read.all fun c => decide (2 ≤ c.order) && decide (c.order ≤ 40) then
    let loaded := read.map clampComponent
    some (loaded, loaded != read)
  else none

/-- The shape set index of an episode, 0 for a kind that names none. -/
def Episode.setIndex (ep : Episode) : Nat :=
  match ep.kind with
  | .shape j => j
  | _ => 0

end Sys2Proof.Machine
end

