-- ==== Sys2Proof/Machine/Ops.lean ====
section
/-! DEFINITION. The operations that several blocks share: posting records, setting flags, the classes of engine
states, and requests and withdrawals at the Plan Port. -/

namespace Sys2Proof.Machine

/-! ### Engine states -/

/-- The live states (00, Terms; R136). -/
def EngineState.live : EngineState → Bool
  | .closing => true
  | .softstart => true
  | .running => true
  | .releasing => true
  | .standby => false
  | .loading => false
  | .tripped => false
  | .faulted => false

/-- The states in which a lane that needs an episode applies the cue test (R7). -/
def EngineState.cueOpen : EngineState → Bool
  | .closing => true
  | .softstart => true
  | .running => true
  | _ => false

/-- The states in which a cycle start requests a scan (R5). -/
def EngineState.scans : EngineState → Bool
  | .softstart => true
  | .running => true
  | .releasing => true
  | _ => false

/-- The states in which every code is forced to 0 (R115). -/
def EngineState.silent : EngineState → Bool
  | .softstart => false
  | .running => false
  | .releasing => false
  | _ => true

/-- The code of an engine state in STAT and in an ENGINE record (R164, R170). -/
def EngineState.code : EngineState → Nat
  | .standby => 0 | .loading => 1 | .closing => 2 | .softstart => 3
  | .running => 4 | .releasing => 5 | .tripped => 6 | .faulted => 7

/-! ### Records -/

/-- The capacity of the pending queue (R165). -/
def queueCapacity : Nat := 8

/-- The drop count holds at its top (R167). -/
def addDrop (n : Nat) : Nat := min (n + 1) 4294967295

/-- Post a record: it joins the tail of the pending queue, or is dropped and counted when the queue holds 8 (R165). -/
def Journal.post (j : Journal) (r : Record) : Journal :=
  if j.queue.length < queueCapacity then { j with queue := j.queue ++ [r] } else { j with drops := addDrop j.drops }

/-- Post records in their order. -/
def Journal.postAll (j : Journal) (rs : List Record) : Journal := rs.foldl Journal.post j

/-- A record formed with the Timebase's counters (R102, R164); its gap is filled at its grant. -/
def formRecord (tb : Timebase) (lane : Option LaneId) (episode : Half) (body : RecordBody) : Record :=
  { lane := lane, gap := 0, cycle := tb.cycle, sample := BitVec.ofNat 16 tb.sample, episode := episode, body := body }

/-- An ENGINE record: lane 255, episode index 0xFFFF, and neither phase nor peak unless a trip gives them (R163). -/
def engineRecord (tb : Timebase) (newState : EngineState) (cause : EngineCause) (reason : RefusalReason := .none)
    (phase : Option Phase := none) (peak : Nat := 0) : Record :=
  formRecord tb none noEpisode (.engine cause newState reason phase (BitVec.ofNat 16 peak))

/-- Post a record at an event that is no sample event: it joins when the event is taken (R165). -/
def State.post (s : State) (r : Record) : State := { s with journal := s.journal.post r }

/-- Set a flag (R173). -/
def State.setFlag (s : State) (f : Flag) : State := { s with window := s.window.setFlag f }

/-! ### The Plan Port's requests -/

/-- Request a scan: one is held at most, and one in flight takes the request with it (R5). A scan that a soft reset
has disowned belongs to no requester (R19), so it takes no request with it (log entry 8). -/
def Port.requestScan (p : Port) : Port :=
  match p.slot with
  | some t => if t.kind = .scan ∧ t.orphan = false then p else { p with scanRequest := true }
  | none => { p with scanRequest := true }

/-- Every write-back left owed is requested again at the ending of a scan (R6, R10, R13). -/
def Port.requestOwed (p : Port) : Port :=
  { p with
    takenRequest := tabLane fun k => getLane p.takenRequest k || getLane p.takenOwed k
    writtenRequest := p.writtenRequest || p.writtenOwed }

/-- The kind of a transaction after the given lanes have stopped wanting their fetches (R9, R17). -/
def BusKind.unwanted (ks : LaneId → Bool) : BusKind → BusKind
  | .laneFetch k f w => .laneFetch k f (w && !ks k)
  | kind => kind

/-- The given lanes stop wanting a fetch in flight: it runs to its ending, and its data is discarded (R17). -/
def Port.discardFetches (p : Port) (ks : LaneId → Bool) : Port :=
  { p with slot := p.slot.map fun t => { t with kind := t.kind.unwanted ks } }

/-! ### Relays -/

/-- Every present relay is in the given state (R131). -/
def allPresent (mode : BitVec 2) (rs : Relays) (st : RelayState) : Bool :=
  allPhases.all fun x => !present mode x || decide ((getPhase rs.relay x).state = st)

end Sys2Proof.Machine
end

