-- ==== Sys2Proof/Machine/Lanes.lean ====
section
/-! DEFINITION. The Lane Sequencer, one lane at a time: the cue test, the slots, triggers, applications, working
values, ends, cuts, stops and halts (3, R44 to R71), with the refusals of R40. A lane's work is a function of what it
reads of the other blocks and of its own state; what it hands to them is in a `LaneOut`. -/

namespace Sys2Proof.Machine

/-- What a lane reads at any event: the counters for its records (R102), the engine state, and the port's counts. -/
structure LaneEnv where
  lane : LaneId
  timebase : Timebase
  engine : EngineState
  posted : Word
  taken : Word

/-- What a lane reads besides at a sample event. `advance` is the increment applied (R100), `released` and `protection`
say that a RELEASE, or a trip or fault, was acted on at this sample event. -/
structure SampleEnv extends LaneEnv where
  cycleStart : Bool
  advance : Nat
  figures : Figures
  /-- open span and stretched of each phase (R132) -/
  spans : PerPhase (Nat × Bool)
  lastComposed : PerPhase Int
  steady : PerPhase Nat
  trig : Bool
  previousTrig : Option Bool
  released : Bool
  protection : Bool

/-- What an END hands to the lane's watch slot (R62). -/
structure Arming where
  episode : Nat
  reference : Phase
  iref : Nat
  part : WatchPart

/-- What comes about on a lane at a sample event that a row of the opcode table names. -/
inductive LaneHappening where
  | stopped | applicationEnd | gapEnd | flickerChange
  deriving DecidableEq, Repr

/-- A lane after its work and what the work hands on: its records in their order, whether a PLAN_REFUSED is among
them (R40), a marker request (R56), a watch to arm, a last END (R54), whether it stopped wanting its fetches (R17),
whether it is WAITING on a CASCADE that is evaluated at this sample event (R54), and what came about. -/
structure LaneOut where
  lane : Lane
  records : List Record := []
  plan : Bool := false
  marker : Bool := false
  arming : Option Arming := none
  lastEnd : Bool := false
  discards : Bool := false
  listening : Option LaneId := none
  happened : List LaneHappening := []

/-- Work on the lane that follows other work at the same event. -/
def LaneOut.andThen (o : LaneOut) (f : Lane → LaneOut) : LaneOut :=
  let r := f o.lane
  { lane := r.lane
    records := o.records ++ r.records
    plan := o.plan || r.plan
    marker := o.marker || r.marker
    arming := r.arming.or o.arming
    lastEnd := o.lastEnd || r.lastEnd
    discards := o.discards || r.discards
    listening := r.listening.or o.listening
    happened := o.happened ++ r.happened }

/-- A record of the lane (R164). -/
def LaneEnv.record (e : LaneEnv) (episode : Half) (body : RecordBody) : Record :=
  formRecord e.timebase (some e.lane) episode body

/-! ### Emptying and halting -/

/-- Both slots emptied and every waiting fetch request withdrawn (R47, R66, R68, R69). -/
def Lane.emptied (l : Lane) : Lane := { l with stage := none, current := none, next := .empty, request := none }

/-- A lane that becomes HALTED; a stop still pending is cleared (R66, R69, R70). -/
def Lane.halted (l : Lane) : Lane := { l.emptied with state := .halted, pendingStop := false }

/-- A refusal (R40, R8, R70): PLAN_REFUSED is posted; a fetch for the current slot halts the lane with LANE_HALTED, and
a fetch for the next slot leaves the slot REFUSED with the cause. -/
def refuse (e : LaneEnv) (cause : Refused) (offending episode : Half) (l : Lane) : LaneOut :=
  if l.state = .idle ∨ l.state = .fetching then
    { lane := l.halted
      records := [e.record episode (.planRefused cause offending), e.record episode (.laneHalted cause)]
      plan := true }
  else
    { lane := { l with next := .refused cause episode, request := none }
      records := [e.record episode (.planRefused cause offending)]
      plan := true }

/-! ### Taking cue entries (R7, R46, R47) -/

/-- A lane needs an episode when it is IDLE, or when its current episode has no NEXT and its next slot is EMPTY (R7). -/
def Lane.needsEpisode (l : Lane) : Bool :=
  match l.state, l.current with
  | .idle, _ => true
  | .waiting, some ep => ep.next == none && l.next == .empty
  | .active, some ep => ep.next == none && l.next == .empty
  | .gap, some ep => ep.next == none && l.next == .empty
  | _, _ => false

/-- D = posted − taken, modulo 2^32 (R7). -/
def cueDistance (posted taken : Word) : Nat := (posted - taken).toNat

/-- The cue slot of a taken count (R3, R8). -/
def cueSlot (taken : Word) : Nat := taken.toNat % 16

/-- Request the cue fetch for the current slot of an IDLE lane, or for the next slot (R46, R47); a lane with a stop
pending requests no more (R66). -/
def Lane.requestCue (l : Lane) : Lane :=
  if l.pendingStop then l
  else if l.state = .idle then { l with state := .fetching, late := false, request := some .cue }
  else { l with next := .fetching, request := some .cue }

/-- The cue test (R7). A stop pending bars the request alone (R66): a refusal is found and halts the lane, and the stop
is then cleared. -/
def cueTest (e : LaneEnv) (l : Lane) : LaneOut :=
  if e.engine.cueOpen && l.needsEpisode then
    if cueDistance e.posted e.taken = 0 then { lane := l }
    else if cueDistance e.posted e.taken ≤ 16 then { lane := l.requestCue }
    else refuse e .cueCount (halfIndex (cueSlot e.taken)) noEpisode l
  else { lane := l }

/-- A cue fetch withdrawn at grant because D has become 0: the lane waits (R8, R46, R47). -/
def Lane.withdrawCue (l : Lane) : Lane :=
  if l.state = .fetching then { l with state := .idle, late := false, request := none }
  else { l with next := .empty, request := none }

/-! ### The slots (R46 to R48) -/

/-- An episode becomes current: the lane is WAITING, and fills its next slot by NEXT or by cue (R46, R47). -/
def becomeCurrent (e : LaneEnv) (late : Bool) (ep : Episode) (l : Lane) : LaneOut :=
  let l := { l with
    state := .waiting, stage := none, current := some ep, next := .empty, request := none, application := 0
    late := late, evaluationMark := false, evaluated := false }
  match ep.next with
  | some n => { lane := { l with next := .fetching, request := some (.episode n) } }
  | none => cueTest e l

/-- The last read of a fetch completes and passes: the loaded episode goes to the slot that was being filled (R46,
R47). -/
def completeEpisode (e : LaneEnv) (ep : Episode) (l : Lane) : LaneOut :=
  if l.state = .fetching then becomeCurrent e l.late ep l
  else { lane := { l with next := .loaded ep, request := none } }

/-- The lane empties its current slot and acts on its next slot (R48). -/
def actOnNextSlot (e : LaneEnv) (l : Lane) : LaneOut :=
  let l := { l with current := none, stage := none }
  match l.next with
  | .loaded ep => becomeCurrent e false ep l
  | .fetching => { lane := { l with state := .fetching, next := .empty, late := true } }
  | .empty => cueTest e { l with state := .idle, late := false }
  | .refused cause index => { lane := l.halted, records := [e.record index (.laneHalted cause)] }

/-! ### Applications (R55 to R61) -/

/-- The stage at a phase advance, none once the duration is reached (R57). -/
def stageAt (ep : Episode) (p : Nat) : Option Stage :=
  if ep.duration ≤ p then none
  else if p < ep.entry then some .entry
  else if p < ep.duration - ep.exit then some .hold
  else some .exit

/-- The envelope of a LEVEL episode with target t on a phase: start value S, exit origin X, steady level L (R58). -/
def levelEnvelope (ep : Episode) (t : Int) (stage : Stage) (p : Nat) (start origin steady : Int) : Int :=
  match stage with
  | .entry => rampPoint start t p ep.entry
  | .hold => t
  | .exit => rampPoint origin steady (p - (ep.duration - ep.exit)) ep.exit

/-- The exit origins: taken at the first sample in EXIT, as the envelope of the sample before, or the target where EXIT
begins at the trigger sample (R58). -/
def exitOrigins (l : Lane) (t : Int) (stage : Stage) (atTrigger : Bool) : PerPhase Int :=
  if stage = .exit ∧ l.stage ≠ some .exit then (if atTrigger then perPhase t else l.envelope) else l.exitOrigin

/-- The lane in a stage at phase advance p, with the envelopes of its kind (R57, R58, R59). -/
def Lane.inStage (l : Lane) (ep : Episode) (steady : PerPhase Nat) (stage : Stage) (p : Nat) (atTrigger : Bool) : Lane :=
  match ep.kind with
  | .level t =>
    let origin := exitOrigins l t stage atTrigger
    { l with
      stage := some stage
      exitOrigin := origin
      envelope := tabPhase fun x =>
        if getPhase ep.mask x then
          levelEnvelope ep t stage p (getPhase l.start x) (getPhase origin x) (Int.ofNat (getPhase steady x))
        else 0 }
  | _ => { l with stage := some stage, envelope := perPhase 0 }

/-- The RMS minimum and maximum with no cycle start taken yet (R61). -/
def noCycle : Nat := 0xFFFF

/-- At a cycle start the application takes the RMS voltage of its reference phase (R61). -/
def Lane.takeRms (l : Lane) (figures : Figures) : Lane :=
  match l.current with
  | some ep =>
    let v := getPhase figures.rmsV ep.reference
    if l.rmsMin = noCycle then { l with rmsMin := v, rmsMax := v }
    else { l with rmsMin := min l.rmsMin v, rmsMax := max l.rmsMax v }
  | none => l

/-- STRETCHED and the open span of an application's end: those of the phases of an OPEN episode's mask (R133). -/
def openFigures (ep : Episode) (spans : PerPhase (Nat × Bool)) : Nat × Bool :=
  match ep.kind with
  | .openCircuit =>
    ((allPhases.filter (getPhase ep.mask)).foldl (fun n x => max n (getPhase spans x).1) 0,
     allPhases.any fun x => getPhase ep.mask x && (getPhase spans x).2)
  | _ => (0, false)

/-- The EPISODE_END of an application that ends or is cut (R62, R65, R164). -/
def endRecord (e : SampleEnv) (cut : Bool) (ep : Episode) (l : Lane) : Record :=
  let open' := openFigures ep e.spans
  e.record (BitVec.ofNat 16 ep.index)
    (.episodeEnd cut open'.2 (BitVec.ofNat 16 l.rmsMin) (BitVec.ofNat 16 l.rmsMax) (BitVec.ofNat 32 l.clips)
      (BitVec.ofNat 32 open'.1) (BitVec.ofNat 16 l.application))

/-- The application ends with END (R62): EPISODE_END, then the next application is awaited, or after the last one the
watch is armed and the next slot acted on. -/
def endApplication (e : SampleEnv) (ep : Episode) (l : Lane) : LaneOut :=
  let ended : LaneOut :=
    { lane := { l with stage := none }, records := [endRecord e false ep l], happened := [.applicationEnd] }
  if ep.repeatCount = 0 ∨ l.application < ep.repeatCount then
    ended.andThen fun l =>
      if ep.repeatGap = 0 then
        { lane := { l with state := .waiting, evaluationMark := false, evaluated := false } }
      else { lane := { l with state := .gap, advance := 0 } }
  else
    { ended with
      lastEnd := true
      arming := ep.watch.map fun part =>
        { episode := ep.index, reference := ep.reference, iref := l.iref, part := part } }.andThen
      (actOnNextSlot e.toLaneEnv)

/-- The start values of an application (R56, R58): the last composed levels of the phases of the mask. -/
def startValues (ep : Episode) (lastComposed : PerPhase Int) : PerPhase Int :=
  tabPhase fun x => if getPhase ep.mask x then getPhase lastComposed x else 0

/-- EPISODE_START, and MARKER directly after it for a MARK episode (R56). -/
def startRecords (e : SampleEnv) (ep : Episode) (late : Bool) (start : PerPhase Int) (iref application : Nat) :
    List Record :=
  let index : Half := BitVec.ofNat 16 ep.index
  let half (x : Phase) : Half := BitVec.ofInt 16 (getPhase start x)
  e.record index (.episodeStart ep.clamped ep.rampCut late (tabPhase half) (BitVec.ofNat 16 iref)
      (BitVec.ofNat 16 application)) ::
    (match ep.kind with
     | .mark tag => [e.record index (.marker tag)]
     | _ => [])

/-- The lane as the trigger sample sets it, before its stage (R55, R58, R59). -/
def Lane.begun (l : Lane) (ep : Episode) (start : PerPhase Int) (iref : Nat) : Lane :=
  { l with
    state := .active, stage := none, application := l.application + 1, advance := 0, late := false, evaluated := true
    start := start, clips := 0, rmsMin := noCycle, rmsMax := noCycle, iref := iref
    factor := match ep.kind with
      | .flicker d _ _ => 10000 + d
      | _ => l.factor
    countdown := match ep.kind with
      | .flicker _ _ n => n
      | _ => l.countdown }

/-- The trigger fires: the lane takes its trigger sample (R55, R56), and an application of duration 0 ends there
(R57). -/
def fire (e : SampleEnv) (ep : Episode) (l : Lane) : LaneOut :=
  let first := l.application = 0
  let iref := if first then getPhase e.figures.rmsI ep.reference else l.iref
  let start := startValues ep e.lastComposed
  let begun := l.begun ep start iref
  let out : LaneOut :=
    { lane := begun
      records := startRecords e ep (decide first && l.late && !l.evaluated) start iref begun.application
      marker := ep.markOut }
  match stageAt ep 0 with
  | some stage => { out with lane := begun.inStage ep e.steady stage 0 true }
  | none => out.andThen (endApplication e ep)

/-- The flicker countdown of one sample of an application after its trigger sample (R59). -/
def Lane.flickerStep (l : Lane) (depth interval : Nat) : LaneOut :=
  if l.countdown ≤ 1 then
    { lane := { l with
        factor := if l.factor = 10000 + depth then 10000 - depth else 10000 + depth
        countdown := interval }
      happened := [.flickerChange] }
  else { lane := { l with countdown := l.countdown - 1 } }

/-- The advance accumulator after one sample event (R57, R63). -/
def Lane.advanced (l : Lane) (increment : Nat) : Lane := { l with advance := l.advance + BitVec.ofNat 64 increment }

/-- The phase advance of the application or of the gap, in angle units (R57, R63). -/
def Lane.phaseAdvance (l : Lane) : Nat := advanceUnits l.advance.toNat

/-- A sample event of an ACTIVE lane after its trigger sample (R57 to R60, R62). -/
def activeWork (e : SampleEnv) (ep : Episode) (l : Lane) : LaneOut :=
  let l := l.advanced e.advance
  match stageAt ep l.phaseAdvance with
  | none => endApplication e ep l
  | some stage =>
    let l := l.inStage ep e.steady stage l.phaseAdvance false
    match ep.kind with
    | .flicker depth _ interval => l.flickerStep depth interval
    | _ => { lane := l }

/-- A sample event of a lane in GAP (R63). -/
def gapWork (e : SampleEnv) (ep : Episode) (l : Lane) : LaneOut :=
  let l := l.advanced e.advance
  if ep.repeatGap ≤ l.phaseAdvance then
    { lane := { l with state := .waiting, evaluationMark := false, evaluated := false }, happened := [.gapEnd] }
  else { lane := l }

/-! ### Triggers (R50 to R54) -/

/-- The arc test of R52: the arc from a0, excluded, to a1, included, contains G. -/
def arcContains (g a0 a1 : Word) : Bool := decide (1 ≤ (g - a0).toNat) && decide ((g - a0).toNat ≤ (a1 - a0).toNat)

/-- The EXT test of R53; with no previous level there is no edge. -/
def extMet (code : Nat) (previous : Option Bool) (level : Bool) : Bool :=
  match code with
  | 0 => previous == some false && level
  | 1 => previous == some true && !level
  | 2 => level
  | 3 => !level
  | _ => false

/-- Whether a trigger is evaluated at a sample event that meets R50: CURRENT is evaluated at cycle starts (R51). -/
def Trigger.evaluatedAt (t : Trigger) (cycleStart : Bool) : Bool :=
  match t with
  | .current _ => cycleStart
  | _ => true

/-- Whether a trigger's condition is met (R51 to R53); a CASCADE fires on an END only (R54). -/
def triggerMet (e : SampleEnv) (ep : Episode) : Bool :=
  match ep.trigger with
  | .immediate => true
  | .cycle => e.cycleStart
  | .angle units =>
    let offset := getPhase e.timebase.offsets ep.reference
    arcContains (unitsToAngle units) (e.timebase.previous + offset) (e.timebase.theta + offset)
  | .ext code => extMet code e.previousTrig e.trig
  | .cascade _ => false
  | .current code => e.cycleStart && decide (code ≤ getPhase e.figures.rmsI ep.reference)

/-- A sample event of a WAITING lane: its evaluation mark is set, and in RUNNING its trigger is evaluated (R50). -/
def waitingWork (e : SampleEnv) (ep : Episode) (l : Lane) : LaneOut :=
  let l := { l with evaluationMark := true }
  if e.engine = .running then
    match ep.trigger with
    | .cascade k => { lane := l, listening := some k }
    | t =>
      if triggerMet e ep then fire e ep l
      else { lane := { l with evaluated := l.evaluated || t.evaluatedAt e.cycleStart } }
  else { lane := l }

/-! ### Cuts, stops, releases and halts (R65 to R69) -/

/-- An ACTIVE lane cuts its application (R65). -/
def cut (e : SampleEnv) (l : Lane) : List Record :=
  match l.state, l.current with
  | .active, some ep => [endRecord e true ep l]
  | _, _ => []

/-- The index LANE_HALTED / STOPPED carries: that of the current episode, or 0xFFFF (R66). -/
def currentIndex (l : Lane) : Half :=
  match l.current with
  | some ep => BitVec.ofNat 16 ep.index
  | none => noEpisode

/-- A pending stop is carried out (R66). -/
def stopWork (e : SampleEnv) (l : Lane) : LaneOut :=
  { lane := l.halted
    records := cut e l ++ [e.record (currentIndex l) (.laneHalted .stopped)]
    discards := true
    happened := [.stopped] }

/-- A RELEASE acts on a lane that is not HALTED (R68). -/
def releaseWork (e : SampleEnv) (l : Lane) : LaneOut :=
  if l.state = .halted then { lane := l }
  else { lane := { l.emptied with state := .idle }, records := cut e l, discards := true }

/-- A trip or fault acts on a lane that is not HALTED (R69); a pending stop is cleared and posts nothing (R66). -/
def protectWork (e : SampleEnv) (l : Lane) : LaneOut :=
  if l.state = .halted then { lane := l } else { lane := l.halted, records := cut e l, discards := true }

/-- A lane's own work at a sample event with no stop, RELEASE, trip or fault. -/
def ownWork (e : SampleEnv) (l : Lane) : LaneOut :=
  match l.state, l.current with
  | .waiting, some ep => waitingWork e ep l
  | .active, some ep => activeWork e ep l
  | .gap, some ep => gapWork e ep l
  | _, _ => { lane := l }

/-- A lane's work at a sample event, cascades apart: a trip or fault comes before a RELEASE's outcome is final, a
RELEASE before a stop, and a stop takes the place of the lane's own work (R66). -/
def laneWork (e : SampleEnv) (l : Lane) : LaneOut :=
  let l := if e.cycleStart && l.state == .active then l.takeRms e.figures else l
  if e.protection then protectWork e l
  else if e.released then
    (releaseWork e l).andThen fun l => if l.pendingStop then stopWork e l else { lane := l }
  else if l.pendingStop then stopWork e l
  else ownWork e l

/-! ### Cascades (R54) -/

/-- A listening lane whose named lane has made its last END at this sample fires there. -/
def hearEnd (e : SampleEnv) (ended : PerLane Bool) (o : LaneOut) : LaneOut :=
  match o.listening, o.lane.current with
  | some k, some ep =>
    if getLane ended k then { o with listening := none }.andThen (fire e ep) else o
  | _, _ => o

/-- The lanes that have made a last END at this sample. -/
def lastEnds (os : PerLane LaneOut) : PerLane Bool := tabLane fun k => (getLane os k).lastEnd

/-- Rounds of cascades: an END may fire a listener whose own END, at duration 0, fires others (R54). -/
def cascadeRounds (envs : PerLane SampleEnv) : Nat → PerLane LaneOut → PerLane LaneOut
  | 0, os => os
  | n + 1, os => cascadeRounds envs n (tabLane fun k => hearEnd (getLane envs k) (lastEnds os) (getLane os k))

/-- A lane still listening has had its CASCADE evaluated. -/
def closeListening (o : LaneOut) : LaneOut :=
  match o.listening with
  | some _ => { o with lane := { o.lane with evaluated := true } }
  | none => o

/-- The work of the six lanes at a sample event. Six rounds reach every lane a chain of ENDs can fire, since each lane
fires at most once at a sample. -/
def lanesWork (envs : PerLane SampleEnv) (ls : PerLane Lane) : PerLane LaneOut :=
  let first := tabLane fun k => laneWork (getLane envs k) (getLane ls k)
  let last := cascadeRounds envs 6 first
  tabLane fun k => closeListening (getLane last k)

/-! ### Claims (R72, R73) -/

/-- Whether a lane claims the given aspect of a phase: it is ACTIVE with an episode of the kind that names the phase. -/
def Lane.claims (l : Lane) (x : Phase) (aspect : Kind → Bool) : Bool :=
  match l.state, l.current with
  | .active, some ep => aspect ep.kind && getPhase ep.mask x
  | _, _ => false

/-- The kinds that claim LEVEL (R25). -/
def Kind.claimsLevel : Kind → Bool
  | .level _ => true
  | .openCircuit => true
  | _ => false

/-- The kind that claims SHAPE (R25). -/
def Kind.claimsShape : Kind → Bool
  | .shape _ => true
  | _ => false

/-- The kind that claims FLICKER (R25). -/
def Kind.claimsFlicker : Kind → Bool
  | .flicker _ _ _ => true
  | _ => false

/-- The kind that claims JUMP (R25). -/
def Kind.claimsJump : Kind → Bool
  | .jump _ _ => true
  | _ => false

/-- The kind that claims FREQ (R25). -/
def Kind.claimsFreq : Kind → Bool
  | .freq _ _ => true
  | _ => false

/-- Whether a lane claims FREQ: it is ACTIVE with a FREQ episode, whatever its mask (R72). -/
def Lane.claimsFreq (l : Lane) : Bool :=
  match l.state, l.current with
  | .active, some ep => ep.kind.claimsFreq
  | _, _ => false

/-- The claim sets as the lanes hold them: a lane is in the sets of its kind while it is ACTIVE (R45, R73). -/
def claimsOf (ls : PerLane Lane) : Claims :=
  let set (aspect : Kind → Bool) : PerPhase (PerLane Bool) :=
    tabPhase fun x => tabLane fun k => (getLane ls k).claims x aspect
  { level := set Kind.claimsLevel, shape := set Kind.claimsShape, flicker := set Kind.claimsFlicker
    jump := set Kind.claimsJump, freq := tabLane fun k => (getLane ls k).claimsFreq }

/-- The lane that stands in a set of phase x or in the FREQ set for a sample (R114). -/
def Claims.governs (c : Claims) (x : Phase) (k : LaneId) : Bool :=
  getLane (getPhase c.level x) k || getLane (getPhase c.shape x) k || getLane (getPhase c.flicker x) k ||
    getLane (getPhase c.jump x) k || getLane c.freq k

/-- The lane's clip count after a sample at which the given phases were clamped (R61, R114). -/
def Lane.addClips (l : Lane) (n : Nat) : Lane := { l with clips := min (l.clips + n) 4294967295 }

end Sys2Proof.Machine
end

