-- ==== Sys2Proof/Machine/LinkOps.lean ====
section
/-! DEFINITION. The Drive Link and the Relay Driver (7, R119 to R133). -/

namespace Sys2Proof.Machine

/-! ### The output frame and the marker -/

/-- The 24-bit word of a code: bits 19 to 0 its two's complement, bits 23 to 20 its sign extension (R119). -/
def driveWord (code : Int) : BitVec 24 := ((BitVec.ofInt 20 code).signExtend 24)

/-- The three words of a frame of codes (R119). -/
def driveWords (frame : PerPhase Int) : PerPhase (BitVec 24) := tabPhase fun x => driveWord (getPhase frame x)

/-- The link's frame work at a sample event (R120, R121): the strobe of the frame shifted before, the shift of the
frame of the sample before, or of a zero frame in TRIPPED or FAULTED, and the new frame into the other buffer. -/
def Link.sendFrame (lk : Link) (zeroFrame : Bool) (frame : PerPhase Int) : Link :=
  let old := if lk.writesBuffer1 then lk.buffer0 else lk.buffer1
  { lk with
    strobe := lk.shifting.isSome
    strobed := lk.shifting.or lk.strobed
    shifting := some (driveWords (if zeroFrame then perPhase 0 else old))
    buffer0 := if lk.writesBuffer1 then lk.buffer0 else frame
    buffer1 := if lk.writesBuffer1 then frame else lk.buffer1
    writesBuffer1 := !lk.writesBuffer1 }

/-- The length of a marker pulse in sample periods (R124). -/
def markerLength : Nat := 4

/-- The marker's work at a sample event: a request of two sample events before raises the marker for 4 sample periods,
and otherwise the countdown runs and the marker falls when it reaches 0 (R124). -/
def Link.runMarker (lk : Link) (requested : Bool) : Link :=
  { lk with
    marker := if lk.markerRequest2 then true else lk.marker && decide (1 < lk.markerCount)
    markerCount := if lk.markerRequest2 then markerLength else lk.markerCount - 1
    markerRequest2 := lk.markerRequest1
    markerRequest1 := requested }

/-- Whether the marker countdown reaches 0 and the marker goes low at this sample event (R124). -/
def Link.markerEnds (lk : Link) : Bool := !lk.markerRequest2 && decide (lk.markerCount = 1)

/-- The status lines as a sample event samples them (R123). -/
def Link.sampleLines (lk : Link) (ready fault : Bool) : Link := { lk with ready := ready, fault := fault }

/-- A soft reset on the link: the shift is stopped without a strobe, both buffers hold zero frames, and the marker is
low with no request held (R122, R125). What the amplifier was last strobed and the sampled levels stay (R122, R123, log
entry 10), and so does the buffer that the next sample event writes (log entry 31). -/
def Link.softReset (lk : Link) : Link :=
  { Link.reset with
    writesBuffer1 := lk.writesBuffer1, strobed := lk.strobed, ready := lk.ready, fault := lk.fault }

/-! ### The relay driver -/

/-- Steps 1 and 2 of R128: the counters, then the completion of an operation whose remaining time has reached 0. -/
def Relay.advance (r : Relay) : Relay :=
  match r.state with
  | .opened => { r with openSpan := min (r.openSpan + 1) 4294967295 }
  | .closing =>
    { r with state := if r.remaining ≤ 1 then .closed else .closing, remaining := r.remaining - 1 }
  | .closed => r
  | .opening =>
    { state := if r.remaining ≤ 1 then .opened else .opening
      remaining := r.remaining - 1
      openSpan := min (r.openSpan + 1) 4294967295 }

/-- Whether steps 1 and 2 complete an operation (R128). -/
def Relay.completes (r : Relay) : Bool :=
  (decide (r.state = .closing) || decide (r.state = .opening)) && decide (r.remaining ≤ 1)

/-- The open span and stretched figures, as steps 1 and 2 leave the relay (R132). -/
def Relay.span (r : Relay) : Nat × Bool :=
  match r.state with
  | .opening => (r.openSpan + r.remaining, true)
  | .opened => (r.openSpan, false)
  | .closing => (0, false)
  | .closed => (0, false)

/-- The relay begins to open (R128, R130). -/
def Relay.beginOpening (openTime : Nat) : Relay := { state := .opening, remaining := openTime, openSpan := 0 }

/-- Step 3 of R128: the command, true for close. A CLOSING or OPENING relay runs on (R129), but at a trip or fault a
CLOSING relay becomes OPENING (R130). -/
def Relay.command (r : Relay) (close protection : Bool) (closeTime openTime : Nat) : Relay :=
  match r.state with
  | .opened => if close then { r with state := .closing, remaining := closeTime } else r
  | .closed => if close then r else Relay.beginOpening openTime
  | .closing => if protection then Relay.beginOpening openTime else r
  | .opening => r

/-- Steps 1 and 2 for each present phase (R128). -/
def Relays.advance (rs : Relays) (mode : BitVec 2) : Relays :=
  { rs with relay := tabPhase fun x =>
      if present mode x then (getPhase rs.relay x).advance else getPhase rs.relay x }

/-- Step 3 for each present phase (R128). -/
def Relays.command (rs : Relays) (mode : BitVec 2) (close : PerPhase Bool) (protection : Bool) : Relays :=
  { rs with relay := tabPhase fun x =>
      if present mode x then
        (getPhase rs.relay x).command (getPhase close x) protection rs.closeTime rs.openTime
      else getPhase rs.relay x }

/-- The drive output of a relay: asserted while CLOSING or CLOSED (R126). -/
def Relay.driveOutput (r : Relay) : Bool :=
  match r.state with
  | .opened => false
  | .closing => true
  | .closed => true
  | .opening => false

/-- Latch the operate times of a completed load (R127). -/
def Relays.latch (rs : Relays) (header : List Word) : Relays :=
  { rs with closeTime := max 26 (u16 header 54), openTime := max 26 (u16 header 56) }

end Sys2Proof.Machine
end

