-- ==== Sys2Proof/Machine/MeasureOps.lean ====
section
/-! DEFINITION. The Measurement Unit: frames, the measurement of a sample, cycle figures, summaries and the trip
detector (8, R134 to R141). -/

namespace Sys2Proof.Machine

/-! ### Measurement frames (R134) -/

/-- The length of a measurement frame in bytes. -/
def frameLength : Nat := 13

/-- The signed 16-bit code at a place of a frame, high byte first. -/
def codeAt (bytes : List Byte) (n : Nat) : Int := (bytes.getD n 0 ++ bytes.getD (n + 1) 0).toInt

/-- The sum of the bytes of a frame, modulo 256. -/
def checkSum (bytes : List Byte) : Byte := bytes.foldl (· + ·) 0

/-- A frame is good when exactly 13 bytes came before its end marker and the check holds (R134); one whose reception a
soft reset met is discarded (R135). -/
def goodFrame (f : FrameArrival) : Bool :=
  f.ended && !f.acrossSoftReset && decide (f.bytes.length = frameLength) && checkSum f.bytes == 0

/-- The six channel codes of a frame (R134). -/
def frameCodes (bytes : List Byte) : Codes :=
  { v := ⟨codeAt bytes 0, codeAt bytes 2, codeAt bytes 4⟩, i := ⟨codeAt bytes 6, codeAt bytes 8, codeAt bytes 10⟩ }

/-- The arrival of a frame: a good one is held, in place of one held before; any other is discarded (R134). -/
def Measure.receive (m : Measure) (f : FrameArrival) : Measure :=
  if goodFrame f then { m with holder := some (frameCodes f.bytes) } else m

/-! ### Cycle figures (R137, R138) -/

/-- The cycle figures of the cycle just ended, with the clip counts handed over for it (R113, R138). -/
def Measure.closing (m : Measure) (clips : PerPhase Nat) : Figures :=
  let rms (sum : PerPhase Nat) : PerPhase Nat := tabPhase fun x => isqrt (getPhase sum x / m.count)
  { rmsV := rms m.sumV, rmsI := rms m.sumI, peakI := m.peakI, stale := m.cycleStale, clips := clips }

/-- The accumulators cleared (R137, R138). -/
def Measure.cleared (m : Measure) : Measure :=
  { m with sumV := perPhase 0, sumI := perPhase 0, count := 0, peakI := perPhase 0, cycleStale := 0 }

/-- The accumulators and the figures at a sample event before its own measurement: closed and delivered at a cycle
start (R138, R139), cleared with figures of 0 and the summary counter 0 at a restart (R137, R139, R140). -/
def Measure.atSample (m : Measure) (cycleStart restart : Bool) (clips : PerPhase Nat) : Measure :=
  if restart then { m.cleared with figures := Figures.zero, summaryCounter := 0 }
  else if cycleStart then { m.cleared with figures := m.closing clips }
  else m

/-- The measurement of a sample: the held frame, or the last good one again (R135); the live stale run counts to 256
in a live state and is 0 outside (R136). -/
def Measure.take (m : Measure) (live : Bool) : Measure :=
  match m.holder with
  | some codes => { m with holder := none, lastGood := codes, liveStale := 0 }
  | none =>
    { m with cycleStale := m.cycleStale + 1, liveStale := if live then min (m.liveStale + 1) 256 else 0 }

/-- The sample's measurement joins the accumulators (R137). -/
def Measure.accumulate (m : Measure) : Measure :=
  let square (n : Int) : Nat := magnitude n * magnitude n
  { m with
    sumV := tabPhase fun x => getPhase m.sumV x + square (getPhase m.lastGood.v x)
    sumI := tabPhase fun x => getPhase m.sumI x + square (getPhase m.lastGood.i x)
    count := m.count + 1
    peakI := tabPhase fun x => max (getPhase m.peakI x) (magnitude (getPhase m.lastGood.i x)) }

/-! ### The trip detector and measurement loss (R136, R141) -/

/-- Whether a phase is at or above the trip code in a live state (R141). -/
def Measure.over (m : Measure) (mode : BitVec 2) (live : Bool) (x : Phase) : Bool :=
  live && present mode x && decide (m.tripCode ≤ magnitude (getPhase m.lastGood.i x))

/-- The run counts and run peaks of a sample (R141); a count holds at the trip count. -/
def Measure.detect (m : Measure) (mode : BitVec 2) (live : Bool) : Measure :=
  { m with
    runCount := tabPhase fun x =>
      if m.over mode live x then
        (if getPhase m.runCount x < m.tripCount then getPhase m.runCount x + 1 else getPhase m.runCount x)
      else 0
    runPeak := tabPhase fun x =>
      if m.over mode live x then max (getPhase m.runPeak x) (magnitude (getPhase m.lastGood.i x)) else 0 }

/-- The Measurement Unit's work on the sample's measurement (R135 to R141). -/
def Measure.sample (m : Measure) (mode : BitVec 2) (live cycleStart restart : Bool) (clips : PerPhase Nat) : Measure :=
  (((m.atSample cycleStart restart clips).take live).accumulate).detect mode live

/-- The trip report: the first present phase whose run count stands at the trip count, with its run peak (R141). -/
def Measure.tripReport (m : Measure) (mode : BitVec 2) (live : Bool) : Option (Phase × Nat) :=
  (allPhases.find? fun x => live && present mode x && decide (m.tripCount ≤ getPhase m.runCount x)).map
    fun x => (x, getPhase m.runPeak x)

/-- Measurement lost: the live stale run stands at 256 (R136). -/
def Measure.lost (m : Measure) (live : Bool) : Bool := live && decide (256 ≤ m.liveStale)

/-! ### Cycle summaries (R140) -/

/-- The summary counter at a cycle start, before it is tested against the period (R140). -/
def Measure.countSummary (m : Measure) (running : Bool) : Nat :=
  if running then (if m.summaryPeriod = 0 then m.summaryCounter else m.summaryCounter + 1) else 0

/-- Whether a CYCLE_SUMMARY is posted at a cycle start (R140). -/
def Measure.summaryDue (m : Measure) (running : Bool) : Bool :=
  running && decide (1 ≤ m.summaryPeriod) && decide (m.summaryPeriod ≤ m.summaryCounter + 1)

/-- The CYCLE_SUMMARY record of the delivered figures (R140, R164). -/
def summaryRecord (tb : Timebase) (f : Figures) : Record :=
  let half (v : PerPhase Nat) : PerPhase Half := tabPhase fun x => BitVec.ofNat 16 (getPhase v x)
  formRecord tb none noEpisode
    (.cycleSummary (tabPhase fun x => decide (0 < getPhase f.clips x)) (half f.rmsV) (half f.rmsI) (half f.peakI)
      (BitVec.ofNat 16 f.stale))

/-- The summary counter after a sample event (R140). -/
def Measure.afterSummary (m : Measure) (cycleStart running : Bool) : Measure :=
  if cycleStart then { m with summaryCounter := if m.summaryDue running then 0 else m.countSummary running } else m

/-- Latch the Measurement Unit's settings of a completed load (R140). -/
def Measure.latch (m : Measure) (header : List Word) : Measure :=
  { m with
    tripCode := u16 header 48, tripCount := max 1 (u8 header 50), summaryPeriod := u16 header 60
    currentFloor := u16 header 62 }

end Sys2Proof.Machine
end

