-- ==== Sys2Proof/Machine/Records.lean ====
section
/-! DEFINITION. The 32 bytes of a journal record as it is written to the journal (R164). -/

namespace Sys2Proof.Machine

/-- The code of a lane in a record: 0 to 5, or 255 for none. -/
def laneCode : Option LaneId → Byte
  | some k => BitVec.ofNat 8 (laneNumber k)
  | none => 255

/-- The code of a PLAN_REFUSED or LANE_HALTED cause. -/
def Refused.code : Refused → Byte
  | .unknownKind => 1 | .emptyMask => 2 | .badTrigger => 3 | .indexRange => 4
  | .badShape => 5 | .cueCount => 6 | .bus => 7 | .stopped => 8

/-- The code of a WATCH_RESULT outcome. -/
def WatchOutcome.code : WatchOutcome → Byte
  | .recovered => 1 | .notRecovered => 2 | .noReference => 3 | .superseded => 4 | .abandoned => 5

/-- The code of an ENGINE cause. -/
def EngineCause.code : EngineCause → Byte
  | .start => 1 | .loaded => 2 | .startRefused => 3 | .closed => 4 | .softstartDone => 5 | .release => 6
  | .released => 7 | .trip => 8 | .fault => 9 | .measLost => 10 | .clear => 11

/-- The code of an ENGINE reason. -/
def RefusalReason.code : RefusalReason → Byte
  | .none => 0 | .notReady => 1 | .bus => 2

/-- The code of an engine state in a record. -/
def stateByte : EngineState → Byte
  | .standby => 0 | .loading => 1 | .closing => 2 | .softstart => 3
  | .running => 4 | .releasing => 5 | .tripped => 6 | .faulted => 7

/-- The code of an ENGINE record's phase: 0 to 2, or 255 for none. -/
def phaseByte : Option Phase → Byte
  | some .A => 0 | some .B => 1 | some .C => 2 | none => 255

/-- A byte of up to three detail bits, bit 0 first. -/
def detailByte (b0 b1 b2 : Bool) : Byte :=
  (if b0 then 1 else 0) ||| (if b1 then 2 else 0) ||| (if b2 then 4 else 0)

/-- A 16-bit field, little-endian. -/
def le16 (h : Half) : List Byte := [h.extractLsb' 0 8, h.extractLsb' 8 8]

/-- A 32-bit field, little-endian. -/
def le32 (w : Word) : List Byte := [w.extractLsb' 0 8, w.extractLsb' 8 8, w.extractLsb' 16 8, w.extractLsb' 24 8]

/-- Three 16-bit fields, one per phase. -/
def le16s (v : PerPhase Half) : List Byte := le16 v.a ++ le16 v.b ++ le16 v.c

/-- The kind code of a record. -/
def RecordBody.kindCode : RecordBody → Byte
  | .episodeStart _ _ _ _ _ _ => 1
  | .episodeEnd _ _ _ _ _ _ _ => 2
  | .watchResult _ _ _ _ => 3
  | .cycleSummary _ _ _ _ _ => 4
  | .planRefused _ _ => 5
  | .laneHalted _ => 6
  | .engine _ _ _ _ _ => 7
  | .marker _ => 8

/-- Byte 3 of a record: detail bits or a cause or outcome code. -/
def RecordBody.detail : RecordBody → Byte
  | .episodeStart clamped rampCut late _ _ _ => detailByte clamped rampCut late
  | .episodeEnd cut stretched _ _ _ _ _ => detailByte cut stretched false
  | .watchResult outcome _ _ _ => outcome.code
  | .cycleSummary clipped _ _ _ _ => detailByte clipped.a clipped.b clipped.c
  | .planRefused cause _ => cause.code
  | .laneHalted cause => cause.code
  | .engine cause _ _ _ _ => cause.code
  | .marker _ => 0

/-- The defined bytes of a record's payload, from offset 12. -/
def RecordBody.payload : RecordBody → List Byte
  | .episodeStart _ _ _ start iref application => le16s start ++ le16 iref ++ le16 application
  | .episodeEnd _ _ rmsMin rmsMax clips openSpan application =>
    le16 rmsMin ++ le16 rmsMax ++ le32 clips ++ le32 openSpan ++ le16 application
  | .watchResult _ cycles lastRms iref => le16 cycles ++ le16 lastRms ++ le16 iref
  | .cycleSummary _ rmsV rmsI peakI stale => le16s rmsV ++ le16s rmsI ++ le16s peakI ++ le16 stale
  | .planRefused _ offending => le16 offending
  | .laneHalted _ => []
  | .engine _ newState reason phase peak => [stateByte newState, reason.code, phaseByte phase, 0] ++ le16 peak
  | .marker tag => le16 tag

/-- The 32 bytes of a record: the head of 12 bytes, the payload, and 0 in the bytes its kind does not define. -/
def Record.bytes (r : Record) : List Byte :=
  let defined := [r.body.kindCode, laneCode r.lane, r.gap, r.body.detail] ++ le32 r.cycle ++ le16 r.sample ++
    le16 r.episode ++ r.body.payload
  defined ++ List.replicate (32 - defined.length) 0

/-- The word of four bytes, the first the least significant. -/
def wordOf (bytes : List Byte) : Word := bytes.getD 3 0 ++ bytes.getD 2 0 ++ bytes.getD 1 0 ++ bytes.getD 0 0

/-- The 8 words in which a record is written (R13). -/
def Record.words (r : Record) : List Word := (List.range 8).map fun n => wordOf (r.bytes.drop (4 * n))

end Sys2Proof.Machine
end

