-- ==== Sys2Proof/Machine/TimebaseOps.lean ====
section
/-! DEFINITION. The Timebase: the advance of the angle, cycle starts, restarts and the frequency rule (5, R87 to
R101). -/

namespace Sys2Proof.Machine

/-- Whether the next sample event is a cycle start: no restart is due and the sum reaches 2^32 (R89, R92). -/
def Timebase.wraps (tb : Timebase) : Bool :=
  tb.restartDue == .none && decide (fullCycle ≤ tb.theta.toNat + tb.increment)

/-- The increment the next sample event applies and hands on: 0 at a restart (R100). -/
def Timebase.applied (tb : Timebase) : Nat := if tb.restartDue = .none then tb.increment else 0

/-- The advance of a sample event that is no restart (R89, R91). -/
def Timebase.advance (tb : Timebase) : Timebase :=
  { tb with
    previous := tb.theta
    theta := tb.theta + BitVec.ofNat 32 tb.increment
    cycle := if tb.wraps then tb.cycle + 1 else tb.cycle
    sample := if tb.wraps then 0 else tb.sample + 1 }

/-- The nominal offsets of a mode with the header's offsets B and C in angle units (R96). -/
def offsetsOf (mode : BitVec 2) (unitsB unitsC : Nat) : PerPhase Word :=
  if mode = 3 then ⟨0, unitsToAngle unitsB, unitsToAngle unitsC⟩ else resetOffsets mode

/-- A restart (R92): the start of cycle 0, with the values of the load or those of R87. -/
def Timebase.restart (mode : BitVec 2) (tb : Timebase) : Timebase :=
  let tb := { tb with theta := 0, previous := 0, cycle := 0, sample := 0 }
  match tb.restartDue with
  | .afterLoad =>
    { tb with
      frequency := tb.latchedNominal, nominal := tb.latchedNominal, returnSlew := tb.latchedSlew
      increment := incrementOf tb.latchedNominal
      offsets := offsetsOf mode tb.latchedOffsetB tb.latchedOffsetC
      restartDue := .none }
  | _ =>
    { tb with
      frequency := 50000, nominal := 50000, returnSlew := 0, increment := incrementOf 50000
      offsets := resetOffsets mode
      restartDue := .none }

/-- The Timebase's work at a sample event, the frequency rule apart (R88, R89, R92). -/
def Timebase.tick (mode : BitVec 2) (tb : Timebase) : Timebase :=
  if tb.restartDue = .none then tb.advance else tb.restart mode

/-- The new frequency of R94. -/
def moveFrequency (f target slew : Nat) : Nat :=
  if slew = 0 then target
  else if f + slew < target then f + slew
  else if target + slew < f then f - slew
  else target

/-- The frequency rule of a cycle start: toward the FREQ owner's target, or toward nominal (R94). -/
def Timebase.applyFrequency (tb : Timebase) (owner : Option (Nat × Nat)) : Timebase :=
  let f := match owner with
    | some (target, slew) => moveFrequency tb.frequency target slew
    | none => moveFrequency tb.frequency tb.nominal tb.returnSlew
  { tb with frequency := f, increment := incrementOf f }

/-- Latch the Timebase's fields of a completed load; they take effect at the restart that follows (R93). -/
def Timebase.latch (tb : Timebase) (header : List Word) : Timebase :=
  { tb with
    latchedNominal := clampNat 45000 65000 (u32 header 20)
    latchedSlew := u16 header 58
    latchedOffsetB := u16 header 64 % 3600
    latchedOffsetC := u16 header 66 % 3600
    restartDue := .afterLoad }

end Sys2Proof.Machine
end

