-- ==== Sys2Proof/Machine/ComposerOps.lean ====
section
/-! DEFINITION. The Phase Composer: owners and defaults, the soft-start and release envelopes, the composed level, the
relay commands and the applied envelope (4, R72 to R86). -/

namespace Sys2Proof.Machine

/-- The current episode of the owner of a claim set (R74). -/
def ownerEpisode (ls : PerLane Lane) (set : PerLane Bool) : Option (LaneId × Episode) :=
  (lowestLane set).bind fun k => (getLane ls k).current.map fun ep => (k, ep)

/-- The soft-start envelope of a steady level at an advance (R78). -/
def softEnvelope (steady advance length : Nat) : Int :=
  if advance < length then rampPoint 0 (Int.ofNat steady) advance length else Int.ofNat steady

/-- The release envelope of an origin at an advance (R79). -/
def releaseEnvelope (origin : Int) (advance length : Nat) : Int :=
  if advance < length then rampPoint origin 0 advance length else 0

/-- The LEVEL default of a present phase by engine state (R76). -/
def Composer.levelDefault (c : Composer) (engine : EngineState) (x : Phase) : Int :=
  match engine with
  | .softstart => softEnvelope (getPhase c.steady x) (advanceUnits c.softAdvance) c.softLength
  | .running => Int.ofNat (getPhase c.steady x)
  | .releasing => releaseEnvelope (getPhase c.releaseOrigin x) (advanceUnits c.releaseAdvance) c.releaseLength
  | _ => 0

/-- The composed level of a phase: the LEVEL owner's envelope, 0 for an OPEN owner, or the default; 0 for an absent
phase (R74, R75, R80). -/
def Composer.composedLevel (c : Composer) (mode : BitVec 2) (engine : EngineState) (ls : PerLane Lane) (x : Phase) :
    Int :=
  if present mode x then
    match ownerEpisode ls (getPhase c.claims.level x) with
    | some (k, ep) => if ep.kind = .openCircuit then 0 else getPhase (getLane ls k).envelope x
    | none => c.levelDefault engine x
  else 0

/-- The flicker factor of a phase: the FLICKER owner's, or 10 000 (R74, R75). -/
def Composer.factor (c : Composer) (ls : PerLane Lane) (x : Phase) : Nat :=
  match lowestLane (getPhase c.claims.flicker x) with
  | some k => (getLane ls k).factor
  | none => 10000

/-- The component list of a phase: the SHAPE owner's, or none (R74, R75). -/
def Composer.components (c : Composer) (ls : PerLane Lane) (x : Phase) : List Component :=
  match ownerEpisode ls (getPhase c.claims.shape x) with
  | some (_, ep) => ep.components
  | none => []

/-- The jump offset of a phase: the JUMP owner's, or 0 (R74, R75). -/
def Composer.jump (c : Composer) (ls : PerLane Lane) (x : Phase) : Word :=
  match ownerEpisode ls (getPhase c.claims.jump x) with
  | some (_, ep) =>
    match ep.kind with
    | .jump _ offset => offset
    | _ => 0
  | none => 0

/-- The FREQ owner's target and slew (R74). -/
def Composer.freqOwner (c : Composer) (ls : PerLane Lane) : Option (Nat × Nat) :=
  match ownerEpisode ls c.claims.freq with
  | some (_, ep) =>
    match ep.kind with
    | .freq target slew => some (target, slew)
    | _ => none
  | none => none

/-- The relay command of a phase, true for close (R81). -/
def Composer.commandFor (c : Composer) (mode : BitVec 2) (engine : EngineState) (ls : PerLane Lane) (x : Phase) :
    Bool :=
  present mode x &&
    let held :=
      match ownerEpisode ls (getPhase c.claims.level x) with
      | some (_, ep) => !decide (ep.kind = .openCircuit)
      | none => true
    match engine with
    | .closing => held
    | .softstart => held
    | .running => held
    | .releasing => !c.rampComplete && getPhase c.closeCommand x
    | _ => false

/-- A RELEASE acted on in SOFTSTART or RUNNING starts the release ramp from the last composed levels; in CLOSING the
origins are 0 and the ramp is complete at once (R79). -/
def Composer.release (c : Composer) (fromClosing : Bool) : Composer :=
  { c with
    releaseOrigin := if fromClosing then perPhase 0 else c.lastComposed
    releaseAdvance := 0
    rampRunning := !fromClosing
    rampComplete := fromClosing }

/-- The ramps' accumulators at a sample event: the soft-start one from the second sample event of SOFTSTART, the
release one from the sample event after the RELEASE (R78, R79). -/
def Composer.advanceRamps (c : Composer) (engine : EngineState) (entered released : Bool) (increment : Nat) : Composer :=
  { c with
    softAdvance := if engine = .softstart ∧ !entered then c.softAdvance + increment else c.softAdvance
    releaseAdvance := if engine = .releasing ∧ !released then c.releaseAdvance + increment else c.releaseAdvance }

/-- Whether the release ramp becomes complete at this sample event (R79). -/
def Composer.rampEnds (c : Composer) (engine : EngineState) : Bool :=
  decide (engine = .releasing) && c.rampRunning && decide (c.releaseLength ≤ advanceUnits c.releaseAdvance)

/-- Whether the soft-start is complete at this sample event (R78). -/
def Composer.softDone (c : Composer) (engine : EngineState) : Bool :=
  decide (engine = .softstart) && decide (c.softLength ≤ advanceUnits c.softAdvance)

/-- The marks after the release ramp has become complete (R79). -/
def Composer.endRamp (c : Composer) : Composer := { c with rampRunning := false, rampComplete := true }

/-- The composer's values of a sample event: the composed levels and the relay commands (R80, R81). -/
def Composer.compose (c : Composer) (mode : BitVec 2) (engine : EngineState) (ls : PerLane Lane) : Composer :=
  { c with
    lastComposed := tabPhase (c.composedLevel mode engine ls)
    closeCommand := tabPhase (c.commandFor mode engine ls) }

/-- The applied envelope: the composed level while the relay is CLOSED, 0 otherwise (R82). -/
def appliedEnvelope (composed : Int) (relay : RelayState) : Int := if relay = .closed then composed else 0

/-- Latch the steady levels and the two lengths of a completed load (R77). -/
def Composer.latch (c : Composer) (mode : BitVec 2) (header : List Word) : Composer :=
  let level (offset : Nat) (x : Phase) : Nat := if present mode x then min (u16 header offset) 20000 else 0
  { c with
    steady := ⟨level 24 .A, level 26 .B, level 28 .C⟩
    softLength := u16 header 30
    releaseLength := u16 header 52 }

/-- START empties every claim set and clears the release origins, accumulator and marks (R79, R86). -/
def Composer.atStart (c : Composer) : Composer :=
  { c with
    claims := Claims.none, releaseOrigin := perPhase 0, releaseAdvance := 0, rampRunning := false
    rampComplete := false }

end Sys2Proof.Machine
end

