-- ==== Sys2Proof/Machine/Sine.lean ====
section
/-! DEFINITION. The sine table of the Waveform Synthesizer and its lookup (R105, R106). -/

namespace Sys2Proof.Machine

/-- Entries 0 to 63 of the sine table (R105). -/
def sineQuarter0 : List Nat :=
  [0, 804, 1608, 2413, 3217, 4021, 4824, 5628, 6431, 7234, 8037, 8840, 9642, 10444, 11246, 12047,
   12847, 13647, 14447, 15246, 16044, 16842, 17640, 18436, 19232, 20027, 20822, 21615, 22408, 23200, 23991, 24781,
   25571, 26359, 27146, 27933, 28718, 29502, 30285, 31067, 31848, 32627, 33405, 34183, 34958, 35733, 36506, 37278,
   38048, 38817, 39584, 40350, 41115, 41877, 42639, 43398, 44156, 44913, 45668, 46421, 47172, 47921, 48669, 49415]

/-- Entries 64 to 127 of the sine table (R105). -/
def sineQuarter1 : List Nat :=
  [50159, 50901, 51641, 52379, 53115, 53850, 54582, 55312, 56040, 56766, 57490, 58212, 58931, 59648, 60363, 61076,
   61786, 62495, 63200, 63904, 64605, 65303, 65999, 66693, 67384, 68073, 68758, 69442, 70123, 70801, 71476, 72149,
   72819, 73486, 74151, 74813, 75472, 76128, 76781, 77431, 78079, 78723, 79365, 80003, 80639, 81272, 81901, 82527,
   83151, 83771, 84388, 85001, 85612, 86219, 86823, 87424, 88022, 88616, 89207, 89795, 90379, 90960, 91537, 92111]

/-- Entries 128 to 191 of the sine table (R105). -/
def sineQuarter2 : List Nat :=
  [92681, 93248, 93812, 94371, 94928, 95481, 96030, 96575, 97117, 97655, 98190, 98721, 99248, 99772, 100291, 100807,
   101319, 101828, 102332, 102833, 103329, 103822, 104311, 104796, 105277, 105754, 106227, 106697, 107162, 107623, 108080, 108533,
   108982, 109426, 109867, 110303, 110736, 111164, 111588, 112008, 112423, 112835, 113242, 113645, 114043, 114437, 114827, 115213,
   115594, 115971, 116344, 116712, 117076, 117435, 117790, 118141, 118487, 118828, 119166, 119498, 119826, 120150, 120469, 120784]

/-- Entries 192 to 255 of the sine table (R105). -/
def sineQuarter3 : List Nat :=
  [121094, 121399, 121700, 121997, 122288, 122575, 122858, 123136, 123409, 123678, 123942, 124201, 124456, 124706, 124951, 125191,
   125427, 125658, 125885, 126106, 126323, 126535, 126743, 126945, 127143, 127336, 127524, 127708, 127886, 128060, 128229, 128393,
   128553, 128707, 128857, 129001, 129141, 129276, 129407, 129532, 129652, 129768, 129879, 129984, 130085, 130181, 130272, 130359,
   130440, 130516, 130588, 130654, 130716, 130773, 130824, 130871, 130913, 130950, 130982, 131009, 131032, 131049, 131061, 131069]

/-- Entries 256 to 256 of the sine table (R105). -/
def sineQuarter4 : List Nat :=
  [131071]

/-- Entries 0 to 256 of the sine table: round(131 071 × sin(2πk / 1024)) (R105). -/
def sineQuarter : List Nat := sineQuarter0 ++ sineQuarter1 ++ sineQuarter2 ++ sineQuarter3 ++ sineQuarter4

/-- Entry k of the first quarter as an integer. -/
def quarterEntry (k : Nat) : Int := Int.ofNat (sineQuarter.getD k 0)

/-- Entry S[k] of the sine table, k taken modulo 1024, by the symmetries of R105. -/
def sineEntry (n : Nat) : Int :=
  let k : Nat := n % 1024
  if k ≤ 256 then quarterEntry k
  else if k ≤ 512 then quarterEntry (512 - k)
  else if k ≤ 768 then -quarterEntry (k - 512)
  else -quarterEntry (1024 - k)

/-- The sine table, entries S[0] to S[1023] (R105). -/
def sineTable : List Int := (List.range 1024).map sineEntry

/-- s(a): the lookup of a 32-bit angle with linear interpolation (R106). -/
def sineOf (angle : Word) : Int :=
  let i : Nat := angle.toNat / 2 ^ 22
  let r : Nat := angle.toNat / 2 ^ 10 % 4096
  sineEntry i + floorDiv ((sineEntry (i + 1) - sineEntry i) * r) 4096

end Sys2Proof.Machine
end

