-- ==== Sys2Proof/Machine/Waveform.lean ====
section
/-! DEFINITION. The Waveform Synthesizer: the composite waveform, level and modulation, scaling, the ceiling, forced
zero and clip counts (6, R103 to R118). -/

namespace Sys2Proof.Machine

/-- The largest code magnitude, and the largest nominal peak code and ceiling (R104, R118). -/
def maxCode : Nat := 524287

/-- The angle of a component of the fundamental's angle (R107). -/
def componentAngle (phi : Word) (c : Component) : Word :=
  angleOf (c.order * phi.toNat) + unitsToAngle c.phase

/-- The term of a component (R108). -/
def componentTerm (phi : Word) (c : Component) : Int :=
  truncDiv (sineOf (componentAngle phi c) * Int.ofNat c.amplitude) 10000

/-- The composite value w (R109). -/
def composite (phi : Word) (cs : List Component) : Int :=
  cs.foldl (fun w c => w + componentTerm phi c) (sineOf phi)

/-- Level and modulation: v = trunc(w × E × M / 10^8) (R110). -/
def modulated (w envelope : Int) (factor : Nat) : Int := truncDiv (w * envelope * Int.ofNat factor) 100000000

/-- Scaling to a code: round(v × Kx / 131 071) (R111). -/
def scaled (v : Int) (peak : Nat) : Int := roundDiv (v * Int.ofNat peak) 131071

/-- The ceiling: the code after it, and whether it was clamped (R112). -/
def limited (ceiling : Nat) (code : Int) : Int × Bool :=
  if Int.ofNat ceiling < code then (Int.ofNat ceiling, true)
  else if code < -Int.ofNat ceiling then (-Int.ofNat ceiling, true)
  else (code, false)

/-- The code of one phase at a sample event and whether it was clamped: 0 for an absent phase, 0 in the silent engine
states, and R106 to R112 otherwise (R115, R116). -/
def Synth.code (sy : Synth) (mode : BitVec 2) (engine : EngineState) (x : Phase) (phi : Word) (cs : List Component)
    (envelope : Int) (factor : Nat) : Int × Bool :=
  if present mode x && !engine.silent then
    limited sy.ceiling (scaled (modulated (composite phi cs) envelope factor) (getPhase sy.peak x))
  else (0, false)

/-- The synthesized angle of a phase: θ, its nominal offset and the jump offset, modulo 2^32 (R97). -/
def synthesizedAngle (tb : Timebase) (x : Phase) (jump : Word) : Word := tb.theta + getPhase tb.offsets x + jump

/-- The codes of a sample event and which of them were clamped (R117, R118). -/
def Synth.codes (sy : Synth) (mode : BitVec 2) (engine : EngineState) (tb : Timebase) (c : Composer) (ls : PerLane Lane)
    (applied : PerPhase Int) : PerPhase (Int × Bool) :=
  tabPhase fun x =>
    sy.code mode engine x (synthesizedAngle tb x (c.jump ls x)) (c.components ls x) (getPhase applied x) (c.factor ls x)

/-- The cycle clip counts after a sample's clamps (R113). -/
def Synth.countClips (sy : Synth) (clamped : PerPhase Bool) : Synth :=
  { sy with cycleClips := tabPhase fun x => getPhase sy.cycleClips x + if getPhase clamped x then 1 else 0 }

/-- The clamps of a sample that count for a lane's application (R114). -/
def clipsFor (c : Claims) (clamped : PerPhase Bool) (k : LaneId) : Nat :=
  (allPhases.filter fun x => getPhase clamped x && c.governs x k).length

/-- Latch the nominal peak codes and the ceiling of a completed load (R104). -/
def Synth.latch (sy : Synth) (mode : BitVec 2) (header : List Word) : Synth :=
  let peak (offset : Nat) (x : Phase) : Nat := if present mode x then min (u32 header offset) maxCode else 0
  { sy with peak := ⟨peak 32 .A, peak 36 .B, peak 40 .C⟩, ceiling := min (u32 header 44) maxCode }

end Sys2Proof.Machine
end

