-- ==== Sys2Proof/Machine/PortOps.lean ====
section
/-! DEFINITION. The Plan Port: addresses, the arbiter's grants, and the endings of its transactions (1, R1 to R20). -/

namespace Sys2Proof.Machine

/-! ### Addresses (R1, R3) -/

/-- The Plan Area base of a word written to PLANBASE: its twelve low-order bits are taken as zero (R1). -/
def planBaseOf (value : Word) : Word := value &&& 0xFFFFF000#32

/-- A region offset as it is latched: its two low-order bits are taken as zero (R3). -/
def regionOffset (n : Nat) : Word := BitVec.ofNat 32 n &&& 0xFFFFFFFC#32

/-- Base plus an offset, modulo 2^32 (R1). -/
def headerAddress (base : Word) (offset : Nat) : Word := base + BitVec.ofNat 32 offset

/-- The address of the cue entry of a lane for a taken count (R3). -/
def Port.cueAddress (p : Port) (k : LaneId) (taken : Word) : Word :=
  p.planBase + p.cueOffset + BitVec.ofNat 32 (64 * laneNumber k + 4 * cueSlot taken)

/-- The address of episode record i (R3). -/
def Port.episodeAddress (p : Port) (i : Nat) : Word := p.planBase + p.episodeOffset + BitVec.ofNat 32 (36 * i)

/-- The address of shape set j (R3). -/
def Port.shapeAddress (p : Port) (j : Nat) : Word := p.planBase + p.shapeOffset + BitVec.ofNat 32 (80 * j)

/-- The address of journal record n (R3). -/
def Port.journalAddress (p : Port) (n : Word) : Word :=
  p.planBase + p.journalOffset + BitVec.ofNat 32 (32 * (n.toNat % 256))

/-! ### Issuing transactions (R15) -/

/-- A read enters the slot. -/
def Port.issueRead (p : Port) (kind : BusKind) (base address : Word) (length : Nat) : Port :=
  { p with slot := some { kind := kind, base := base, address := address, writes := false, length := length, data := []
                          timer := 0, orphan := false } }

/-- A write enters the slot. -/
def Port.issueWrite (p : Port) (kind : BusKind) (base address : Word) (data : List Word) : Port :=
  { p with slot := some { kind := kind, base := base, address := address, writes := true, length := data.length
                          data := data, timer := 0, orphan := false } }

/-- The fill W − Rd, modulo 2^32 (R12). -/
def Port.fill (p : Port) : Nat := (p.written - p.readCount).toNat

/-- The size of the journal in records (R12). -/
def journalSize : Nat := 256

/-! ### What a lane reads, and what its work does to the part -/

/-- What lane k reads of the other blocks at an event. -/
def State.laneEnv (s : State) (k : LaneId) : LaneEnv :=
  { lane := k, timebase := s.timebase, engine := s.control.engine, posted := getLane s.port.posted k
    taken := getLane s.port.taken k }

/-- Lane work at an event that is no sample event: its records join the queue, and a PLAN_REFUSED sets FLAGS.PLAN
(R40, R165). -/
def State.withLane (s : State) (k : LaneId) (o : LaneOut) : State :=
  { s with
    lanes := setLane s.lanes k o.lane
    journal := s.journal.postAll o.records
    window := s.window.setFlagIf o.plan .plan }

/-- A lane's work from the state as it stands. -/
def State.runLane (s : State) (k : LaneId) (f : LaneEnv → Lane → LaneOut) : State :=
  s.withLane k (f (s.laneEnv k) (getLane s.lanes k))

/-- Every lane that needs an episode applies the cue test (R6, R7). DESIGN CHOICE (log entry 30): no rule orders the
records that several lanes refused at one scan completion post; the model takes lane 0 first. -/
def State.cueTests (s : State) : State := allLanes.foldl (fun s k => s.runLane k cueTest) s

/-! ### The arbiter (R16) -/

/-- The journal write at its grant (R12, R166): a full journal drops the head record, which makes no transaction; else
the head takes the drop count in its gap field and is written as record number W. -/
def State.grantJournal (s : State) (head : Record) (rest : List Record) : State :=
  if journalSize ≤ s.port.fill then { s with journal := { queue := rest, drops := addDrop s.journal.drops } }
  else
    let record := { head with gap := BitVec.ofNat 8 (min s.journal.drops 255) }
    { s with
      journal := { s.journal with queue := record :: rest }
      port := s.port.issueWrite (.journalRecord s.journal.drops) s.port.planBase (s.port.journalAddress s.port.written)
        record.words }

/-- The grant of a lane's fetch; a cue fetch is tested again first (R8, R11). -/
def State.grantFetch (s : State) (k : LaneId) (f : Fetch) : State :=
  let p := s.port
  let granted (address : Word) (length : Nat) : State :=
    { s with
      lanes := setLane s.lanes k { getLane s.lanes k with request := none }
      port := p.issueRead (.laneFetch k f true) p.planBase address length }
  match f with
  | .cue =>
    let taken := getLane p.taken k
    let d := cueDistance (getLane p.posted k) taken
    if d = 0 then { s with lanes := setLane s.lanes k (getLane s.lanes k).withdrawCue }
    else if d ≤ 16 then granted (p.cueAddress k taken) 1
    else s.runLane k fun e l => refuse e .cueCount (halfIndex (cueSlot taken)) noEpisode { l with request := none }
  | .episode i => granted (p.episodeAddress i) 9
  | .shapeCount ep => granted (p.shapeAddress ep.setIndex) 1
  | .shapeComponents ep count => granted (p.shapeAddress ep.setIndex + 4) (componentWords count)

/-- The grant of a taken-count write-back: the count as held at the grant, to byte 192 + 4k (R10). -/
def State.grantTaken (s : State) (k : LaneId) : State :=
  let value := getLane s.port.taken k
  { s with
    port :=
      { s.port with takenRequest := setLane s.port.takenRequest k false }.issueWrite (.takenCount k value)
        s.port.planBase (headerAddress s.port.planBase (192 + 4 * laneNumber k)) [value] }

/-- The grant of an owed written count: W as held at the grant, to byte 216 (R13). -/
def State.grantWritten (s : State) : State :=
  { s with
    port :=
      { s.port with writtenRequest := false }.issueWrite .writtenCount s.port.planBase
        (headerAddress s.port.planBase 216) [s.port.written] }

/-- The grant of a scan: a burst read of header bytes 96 to 123 (1.3). -/
def State.grantScan (s : State) : State :=
  { s with
    port :=
      { s.port with scanRequest := false }.issueRead .scan s.port.planBase (headerAddress s.port.planBase 96) 7 }

/-- The grant of the run-settings load: its first transaction, a burst read of header bytes 0 to 67 (R4). -/
def State.grantLoad (s : State) : State :=
  { s with
    port :=
      { s.port with loadRequest := false }.issueRead .loadHeader s.port.planBase (headerAddress s.port.planBase 0) 17 }

/-- The lane fetch the arbiter reaches first: the lowest lane with a request waiting (R16). -/
def firstFetch (ls : PerLane Lane) : Option (LaneId × Fetch) :=
  allLanes.findSome? fun k => (getLane ls k).request.map fun f => (k, f)

/-- One turn of the arbiter with the slot IDLE, in the order of R16. -/
def State.grantNext (s : State) : State :=
  if s.port.loadRequest then s.grantLoad
  else
    match s.journal.queue with
    | head :: rest => s.grantJournal head rest
    | [] =>
      match firstFetch s.lanes with
      | some (k, f) => s.grantFetch k f
      | none =>
        match lowestLane s.port.takenRequest with
        | some k => s.grantTaken k
        | none =>
          if s.port.writtenRequest then s.grantWritten
          else if s.port.scanRequest then s.grantScan
          else s

/-- The arbiter's grant: nothing is granted while the slot is IN FLIGHT (R16). -/
def State.grant (s : State) : State :=
  match s.port.slot with
  | some _ => s
  | none => s.grantNext

/-! ### Endings (R15, R19) -/

/-- The slot returns to IDLE (R15). -/
def State.freeSlot (s : State) : State := { s with port := { s.port with slot := none } }

/-- A good response to the last word of the transaction in flight, when it is of the kind given: one that a soft reset
has disowned only ends (R19), and with no such transaction in flight the response is ignored (R15). -/
def State.onCompletion (s : State) (kind : BusKind → Bool) (f : Transaction → State → State) : State :=
  match s.port.slot with
  | some t =>
    if kind t.kind then (if t.orphan then s.freeSlot else f t s.freeSlot) else s
  | none => s

/-- STAT.JBAD follows the new fill (R14). -/
def Port.judgeFill (p : Port) : Port := { p with jbad := decide (257 ≤ p.fill) }

/-- The completion of a scan (R6). -/
def State.scanDone (s : State) (words : Vector Word 7) : State :=
  { s with
    port :=
      { s.port with
        posted := ⟨words[0], words[1], words[2], words[3], words[4], words[5]⟩
        readCount := words[6] }.judgeFill.requestOwed }.cueTests

/-- The completion of a cue fetch (R8, R9, R38): the taken count advances and its write-back is owed and requested; a
lane that still wants the entry checks the index and requests the record, and one that does not applies the cue test if
it needs an episode (R7). A mark already set with no request waiting is one that a failed write-back left, since the
slot holds no write-back: no request is made for it until the next scan ends (R10). -/
def State.cueDone (s : State) (k : LaneId) (wanted : Bool) (word : Word) : State :=
  let p := s.port
  let s : State :=
    { s with
      port :=
        { p with
          taken := setLane p.taken k (getLane p.taken k + 1)
          takenOwed := setLane p.takenOwed k true
          takenRequest := setLane p.takenRequest k (getLane p.takenRequest k || !getLane p.takenOwed k) } }
  let index := u16 [word] 0
  if wanted then
    if index < p.episodeCount then
      s.runLane k fun _ l => { lane := { l with request := some (.episode index) } }
    else s.runLane k fun e l => refuse e .indexRange (halfIndex index) noEpisode l
  else s.runLane k cueTest

/-- The completion of an episode fetch (R39, R40). -/
def State.episodeDone (s : State) (k : LaneId) (wanted : Bool) (index : Nat) (words : List Word) : State :=
  if wanted then
    match validateRecord s.control.mode s.port.episodeCount s.port.shapeCount index words with
    | .error (cause, offending) => s.runLane k fun e l => refuse e cause offending (halfIndex index) l
    | .ok ep =>
      match ep.kind with
      | .shape _ => s.runLane k fun _ l => { lane := { l with request := some (.shapeCount ep) } }
      | _ => s.runLane k fun e l => completeEpisode e ep l
  else s

/-- The completion of a shape count read (R43). -/
def State.shapeCountDone (s : State) (k : LaneId) (wanted : Bool) (ep : Episode) (word : Word) : State :=
  if wanted then
    let count := u8 [word] 0
    if 1 ≤ count ∧ count ≤ 12 then
      s.runLane k fun _ l => { lane := { l with request := some (.shapeComponents ep count) } }
    else s.runLane k fun e l => refuse e .badShape (halfIndex ep.setIndex) (halfIndex ep.index) l
  else s

/-- The completion of a shape component read (R43). -/
def State.shapeComponentsDone (s : State) (k : LaneId) (wanted : Bool) (ep : Episode) (count : Nat) (words : List Word) :
    State :=
  if wanted then
    match loadComponents words count with
    | some (components, clamped) =>
      s.runLane k fun e l =>
        completeEpisode e { ep with components := components, clamped := ep.clamped || clamped } l
    | none => s.runLane k fun e l => refuse e .badShape (halfIndex ep.setIndex) (halfIndex ep.index) l
  else s

/-- The completion of a taken-count write-back (R10). -/
def State.takenDone (s : State) (k : LaneId) (value : Word) : State :=
  let p := s.port
  let again := decide (getLane p.taken k ≠ value)
  { s with
    port :=
      { p with
        takenOwed := setLane p.takenOwed k again
        takenRequest := setLane p.takenRequest k (again || getLane p.takenRequest k) } }

/-- The completion of a journal record write (R13, R166): the record leaves the queue, W advances, the drops it reported
are no longer counted, and the count write follows within the same grant, at the grant's base. -/
def State.recordDone (s : State) (base : Word) (dropsTaken : Nat) : State :=
  let w := s.port.written + 1
  { s with
    journal := { queue := s.journal.queue.tail, drops := s.journal.drops - dropsTaken }
    port := { s.port with written := w }.issueWrite .journalCount base (headerAddress base 216) [w] }

/-- The completion of a write of the written count by the Journal Writer (R13): FLAGS.JOURNAL is set and no count is
owed. DEDUCED (log entry 33): a request for an owed count that still waits goes with the mark. -/
def State.countDone (s : State) : State :=
  { s with
    port := { s.port with writtenOwed := false, writtenRequest := false }
    window := s.window.setFlag .journal }

/-- The Plan Port's settings of a completed load (R3, R4). -/
def Port.latch (p : Port) (header : List Word) (readCount : Word) : Port :=
  { p with
    episodeOffset := regionOffset (u32 header 0)
    episodeCount := min (u16 header 4) 4096
    shapeCount := min (u16 header 6) 256
    shapeOffset := regionOffset (u32 header 8)
    cueOffset := regionOffset (u32 header 12)
    journalOffset := regionOffset (u32 header 16)
    readCount := readCount
    written := readCount
    jbad := false
    writtenOwed := false
    writtenRequest := false }

/-- The completion of the run-settings load (R4, R151): every block latches its settings, a scan is requested, and the
engine enters CLOSING, or returns to STANDBY with NOT_READY. -/
def State.loadDone (s : State) (header : List Word) (readCount : Word) : State :=
  let mode := s.control.mode
  let ready := s.link.ready
  let engine : EngineState := if ready then .closing else .standby
  let record :=
    if ready then engineRecord s.timebase .closing .loaded
    else engineRecord s.timebase .standby .startRefused .notReady
  { s with
    control := { s.control with engine := engine }
    port := (s.port.latch header readCount).requestScan
    timebase := s.timebase.latch header
    composer := s.composer.latch mode header
    synth := s.synth.latch mode header
    relays := s.relays.latch header
    measure := s.measure.latch header
    journal := s.journal.post record
    window := s.window.setFlagIf (!ready) .run }

/-! ### Failures (R15, the table of bus endings) -/

/-- The part after a failed transaction, the records the failure posts, and whether the head record of the pending
queue is dropped by it. -/
structure Failure where
  state : State
  records : List Record := []
  dropsHead : Bool := false

/-- A lane's fetch fails: a lane that still wants it is refused with cause BUS (R9, R11). DESIGN CHOICE (log entry 29):
the rules do not say what the failure of a read that its lane has stopped wanting does besides FLAGS.BUS; the model
refuses nothing. -/
def State.fetchFailed (s : State) (k : LaneId) (f : Fetch) (wanted : Bool) : Failure :=
  if wanted then
    let offending : Half :=
      match f with
      | .cue => halfIndex (cueSlot (getLane s.port.taken k))
      | .episode i => halfIndex i
      | .shapeCount ep => halfIndex ep.setIndex
      | .shapeComponents ep _ => halfIndex ep.setIndex
    let episode : Half :=
      match f with
      | .cue => noEpisode
      | .episode i => halfIndex i
      | .shapeCount ep => halfIndex ep.index
      | .shapeComponents ep _ => halfIndex ep.index
    let o := refuse (s.laneEnv k) .bus offending episode (getLane s.lanes k)
    { state :=
        { s with lanes := setLane s.lanes k o.lane, window := s.window.setFlagIf o.plan .plan }
      records := o.records }
  else { state := s }

/-- The failed run-settings load: START is refused with cause BUS (R4, R151). -/
def State.loadFailed (s : State) : Failure :=
  { state := { s with control := { s.control with engine := .standby }, window := s.window.setFlag .run }
    records := [engineRecord s.timebase .standby .startRefused .bus] }

/-- The outcome of an error response or an expiry for the requester (R15, the table of bus endings), the slot already
IDLE and FLAGS.BUS already set. DESIGN CHOICE (log entry 34): a write of the written count that an earlier scan
requested and that still waits when a later count write fails goes on waiting, where R13 speaks of the next scan alone.
-/
def State.failed (s : State) (kind : BusKind) : Failure :=
  match kind with
  | .loadHeader => s.loadFailed
  | .loadReadCount _ => s.loadFailed
  | .loadWriteCount _ _ => s.loadFailed
  | .journalRecord _ => { state := s, dropsHead := true }
  | .journalCount => { state := { s with port := { s.port with writtenOwed := true } } }
  | .laneFetch k f wanted => s.fetchFailed k f wanted
  | .takenCount _ _ => { state := s }
  | .writtenCount => { state := { s with port := { s.port with writtenOwed := true } } }
  | .scan => { state := { s with port := s.port.requestOwed } }

/-- The transaction in flight ends by an error response or by the wait limit (R15); one that a soft reset has disowned
only ends (R19). -/
def State.fail (s : State) : Failure :=
  match s.port.slot with
  | none => { state := s }
  | some t =>
    if t.orphan then { state := s.freeSlot }
    else (s.freeSlot.setFlag .bus).failed t.kind

/-- The head record is dropped and counted (R13, R167). -/
def Journal.dropHead (j : Journal) : Journal := { queue := j.queue.tail, drops := addDrop j.drops }

end Sys2Proof.Machine
end

