-- ==== Sys2Proof/Machine/RunCommands.lean ====
section
/-! DEFINITION. The run commands and resets: START, RELEASE, NUDGE, CLEAR, SOFT_RESET, POWER_ON_RESET and RST held low
(R5, R150, R154, R159 to R162, R176). -/

namespace Sys2Proof.Machine

/-- While RST is held low the register window answers no access, the bus master makes no request and no sample event is
issued (R176), so an event that reaches the part changes nothing. -/
def whileReleased (s : State) (t : State) : Host.Outcome State Fault Refusal := if s.rstLow then .next s else .next t

/-- The mode of the two mode pins: 2 × MODE1 + MODE0 (R176). -/
def modeOfPins (mode1 mode0 : Bool) : BitVec 2 := BitVec.ofBool mode1 ++ BitVec.ofBool mode0

/-- POWER_ON_RESET (R176, R162): the mode pins are latched and every block takes its power-on reset value. -/
def execPowerOnReset (mode1 mode0 : Bool) (s : State) : Host.Outcome State Fault Refusal :=
  .next (State.powerOn (modeOfPins mode1 mode0) s.pending)

/-- START accepted in STANDBY (R150). -/
def State.started (s : State) : State :=
  { s with
    control := { s.control with engine := .loading, pendingRelease := false }
    lanes := perLane Lane.reset
    composer := s.composer.atStart
    watches := perLane Watch.idle
    port := { s.port with loadRequest := true }.discardFetches fun _ => true
    journal := s.journal.post (engineRecord s.timebase .loading .start) }

/-- START (R150): accepted in STANDBY, ignored elsewhere. -/
def execStart (s : State) : Host.Outcome State Fault Refusal :=
  whileReleased s (if s.control.engine = .standby then s.started else s)

/-- RELEASE (R154): pending until the next sample event, except in LOADING. -/
def execRelease (s : State) : Host.Outcome State Fault Refusal :=
  whileReleased s
    (if s.control.engine = .loading then s else { s with control := { s.control with pendingRelease := true } })

/-- NUDGE (R5): requests a scan, except in LOADING. -/
def execNudge (s : State) : Host.Outcome State Fault Refusal :=
  whileReleased s (if s.control.engine = .loading then s else { s with port := s.port.requestScan })

/-- CLEAR acted on at once (R159). -/
def State.cleared (s : State) : State :=
  { s with
    control := { s.control with engine := .standby }
    journal := s.journal.post (engineRecord s.timebase .standby .clear)
    window := s.window.setFlag .run }

/-- CLEAR (R159): by the engine state, the relay states and the FAULT level as the last sample event left them. -/
def execClear (s : State) : Host.Outcome State Fault Refusal :=
  whileReleased s
    (match s.control.engine with
     | .tripped =>
       if s.control.deferredClear then s
       else if allPresent s.control.mode s.relays .opened then s.cleared
       else { s with control := { s.control with deferredClear := true } }
     | .faulted => if s.link.fault then s else s.cleared
     | _ => s)

/-- The Plan Port after a soft reset: the values of R18, but a transaction in flight runs to its ending, disowned
(R19). -/
def Port.softReset (p : Port) : Port := { Port.reset with slot := p.slot.map fun t => { t with orphan := true } }

/-- SOFT_RESET (R161, R171): every block takes its soft reset value; the mode latch is kept. -/
def execSoftReset (s : State) : Host.Outcome State Fault Refusal :=
  whileReleased s
    { State.powerOn s.control.mode s.pending with port := s.port.softReset, link := s.link.softReset }

/-- RST_HELD_LOW (R176): every output is held in its reset state. Every other block takes its reset value at the release
of RST; until then `whileReleased` and `sampleWork` keep every event from the part. -/
def execRstHeldLow (s : State) : Host.Outcome State Fault Refusal :=
  .next
    { s with
      rstLow := true
      relays := { s.relays with relay := Relays.reset.relay }
      link := { s.link with
        shifting := none, strobe := false, marker := false, markerCount := 0, markerRequest1 := false
        markerRequest2 := false }
      window := { s.window with alert := false, notice := false }
      port := { s.port with slot := none } }

end Sys2Proof.Machine
end

