-- ==== Sys2Proof/Machine/BusRows.lean ====
section
/-! DEFINITION. The Plan Port's commands: the arbiter's grant, the completions of its transactions and an error
response (1, 2.7, R4 to R16, R38 to R43, R151, R166), and the arrival of a measurement frame (R134). -/

namespace Sys2Proof.Machine

/-- MEASUREMENT_FRAME (R134). -/
def execMeasurementFrame (frame : FrameArrival) (s : State) : Host.Outcome State Fault Refusal :=
  whileReleased s { s with measure := s.measure.receive frame }

/-- ARBITER_GRANT (R16): one turn of the arbiter. -/
def execArbiterGrant (s : State) : Host.Outcome State Fault Refusal := whileReleased s s.grant

/-- The load's first or second read. -/
def BusKind.isLoadRead : BusKind → RunSettingsData → Bool
  | .loadHeader, .header _ => true
  | .loadReadCount _, .readCount _ => true
  | _, _ => false

/-- RUN_SETTINGS_READ_COMPLETE (R4): the load's next transaction is issued at the base of its grant. -/
def execRunSettingsReadComplete (data : RunSettingsData) (s : State) : Host.Outcome State Fault Refusal :=
  whileReleased s
    (s.onCompletion (·.isLoadRead data) fun t s =>
      match t.kind, data with
      | .loadHeader, .header words =>
        { s with port := s.port.issueRead (.loadReadCount words) t.base (headerAddress t.base 120) 1 }
      | .loadReadCount header, .readCount word =>
        { s with port := s.port.issueWrite (.loadWriteCount header word) t.base (headerAddress t.base 216) [word] }
      | _, _ => s)

/-- LOAD_COMPLETE (R4, R151): the load's third transaction completes. -/
def execLoadComplete (s : State) : Host.Outcome State Fault Refusal :=
  whileReleased s
    (s.onCompletion (fun | .loadWriteCount _ _ => true | _ => false) fun t s =>
      match t.kind with
      | .loadWriteCount header readCount => s.loadDone header.toList readCount
      | _ => s)

/-- SCAN_COMPLETE (R6). -/
def execScanComplete (words : Vector Word 7) (s : State) : Host.Outcome State Fault Refusal :=
  whileReleased s (s.onCompletion (fun | .scan => true | _ => false) fun _ s => s.scanDone words)

/-- CUE_FETCH_COMPLETE (R8, R9, R38). -/
def execCueFetchComplete (word : Word) (s : State) : Host.Outcome State Fault Refusal :=
  whileReleased s
    (s.onCompletion (fun | .laneFetch _ .cue _ => true | _ => false) fun t s =>
      match t.kind with
      | .laneFetch k .cue wanted => s.cueDone k wanted word
      | _ => s)

/-- EPISODE_FETCH_COMPLETE (R39 to R42). -/
def execEpisodeFetchComplete (words : Vector Word 9) (s : State) : Host.Outcome State Fault Refusal :=
  whileReleased s
    (s.onCompletion (fun | .laneFetch _ (.episode _) _ => true | _ => false) fun t s =>
      match t.kind with
      | .laneFetch k (.episode index) wanted => s.episodeDone k wanted index words.toList
      | _ => s)

/-- SHAPE_COUNT_READ_COMPLETE (R43). -/
def execShapeCountReadComplete (word : Word) (s : State) : Host.Outcome State Fault Refusal :=
  whileReleased s
    (s.onCompletion (fun | .laneFetch _ (.shapeCount _) _ => true | _ => false) fun t s =>
      match t.kind with
      | .laneFetch k (.shapeCount ep) wanted => s.shapeCountDone k wanted ep word
      | _ => s)

/-- SHAPE_COMPONENT_READ_COMPLETE (R43). -/
def execShapeComponentReadComplete (words : Vector Word 18) (s : State) : Host.Outcome State Fault Refusal :=
  whileReleased s
    (s.onCompletion (fun | .laneFetch _ (.shapeComponents _ _) _ => true | _ => false) fun t s =>
      match t.kind with
      | .laneFetch k (.shapeComponents ep count) wanted => s.shapeComponentsDone k wanted ep count words.toList
      | _ => s)

/-- TAKEN_COUNT_WRITE_BACK_COMPLETE (R10). -/
def execTakenCountWriteBackComplete (s : State) : Host.Outcome State Fault Refusal :=
  whileReleased s
    (s.onCompletion (fun | .takenCount _ _ => true | _ => false) fun t s =>
      match t.kind with
      | .takenCount k value => s.takenDone k value
      | _ => s)

/-- JOURNAL_RECORD_WRITE_COMPLETE (R13, R166). -/
def execJournalRecordWriteComplete (s : State) : Host.Outcome State Fault Refusal :=
  whileReleased s
    (s.onCompletion (fun | .journalRecord _ => true | _ => false) fun t s =>
      match t.kind with
      | .journalRecord dropsTaken => s.recordDone t.base dropsTaken
      | _ => s)

/-- WRITTEN_COUNT_WRITE_COMPLETE (R13): the count write of a journal write, or an owed one. -/
def execWrittenCountWriteComplete (s : State) : Host.Outcome State Fault Refusal :=
  whileReleased s
    (s.onCompletion (fun | .journalCount => true | .writtenCount => true | _ => false) fun _ s => s.countDone)

/-- A failure at an event that is no sample event: its records join the queue when it is taken (R165). -/
def State.failNow (s : State) : State :=
  let f := s.fail
  { f.state with
    journal := (if f.dropsHead then f.state.journal.dropHead else f.state.journal).postAll f.records }

/-- BUS_ERROR_RESPONSE (R15). -/
def execBusErrorResponse (s : State) : Host.Outcome State Fault Refusal := whileReleased s s.failNow

end Sys2Proof.Machine
end

