-- ==== Sys2Proof/Machine/WatchOps.lean ====
section
/-! DEFINITION. The Recovery Watch, one slot at a time (8.5, R142 to R146). -/

namespace Sys2Proof.Machine

/-- A slot after its work, the records it posts, and the outcome of a watch that ended. -/
structure WatchOut where
  slot : Watch
  records : List Record := []
  ended : Option WatchOutcome := none

/-- The last RMS a record carries: 0xFFFF when no cycle was counted (R146). -/
def lastRmsField (r : Option Nat) : Half :=
  match r with
  | some n => BitVec.ofNat 16 n
  | none => 0xFFFF#16

/-- A WATCH_RESULT record (R146, R164). -/
def watchRecord (tb : Timebase) (k : LaneId) (w : Watch) (outcome : WatchOutcome) (cycles : Nat) (lastRms : Half) : Record :=
  formRecord tb (some k) (BitVec.ofNat 16 w.episode)
    (.watchResult outcome (BitVec.ofNat 16 cycles) lastRms (BitVec.ofNat 16 w.iref))

/-- A watch ends: its record is posted and the slot becomes IDLE (R144, R145). DESIGN CHOICE (log entry 32): what the
IDLE slot then holds is not stated; the model leaves the ended watch's items in it. -/
def Watch.finish (w : Watch) (tb : Timebase) (k : LaneId) (outcome : WatchOutcome) (cycles : Nat) : WatchOut :=
  { slot := { w with armed := false }
    records := [watchRecord tb k w outcome cycles (lastRmsField w.lastRms)]
    ended := some outcome }

/-- The band test: |I − Iref| × 100 ≤ band × Iref (R144). -/
def bandTest (current iref band : Nat) : Bool :=
  decide ((Int.ofNat current - Int.ofNat iref).natAbs * 100 ≤ band * iref)

/-- An ARMED slot counts a cycle (R144, steps 1 and 2). -/
def Watch.count (w : Watch) (current : Nat) : Watch :=
  let c := w.cycles + 1
  if bandTest current w.iref w.part.band then
    { w with
      cycles := c, lastRms := some current, inBand := w.inBand + 1
      runStart := if w.inBand = 0 then c else w.runStart }
  else { w with cycles := c, lastRms := some current, inBand := 0 }

/-- A slot's work at a cycle start, on the figures delivered there (R144). -/
def Watch.cycleWork (w : Watch) (tb : Timebase) (k : LaneId) (figures : Figures) : WatchOut :=
  if w.armed then
    let w := w.count (getPhase figures.rmsI w.reference)
    if w.part.hold ≤ w.inBand then w.finish tb k .recovered w.runStart
    else if w.part.limit ≤ w.cycles then w.finish tb k .notRecovered w.cycles
    else { slot := w }
  else { slot := w }

/-- A RELEASE, trip or fault ends an ARMED watch ABANDONED (R145). -/
def Watch.abandon (w : Watch) (tb : Timebase) (k : LaneId) : WatchOut :=
  if w.armed then w.finish tb k .abandoned w.cycles else { slot := w }

/-- Further work on a slot at the same sample event. -/
def WatchOut.andThen (o : WatchOut) (f : Watch → WatchOut) : WatchOut :=
  let r := f o.slot
  { slot := r.slot, records := o.records ++ r.records, ended := r.ended.or o.ended }

/-- A slot's work at a sample event before any arming: a RELEASE abandons it at the opening; a trip or fault abandons
it before or after its cycle is counted, as `watchFirst` says (R145). -/
def Watch.sampleWork (w : Watch) (tb : Timebase) (k : LaneId) (figures : Figures)
    (cycleStart released protection watchFirst : Bool) : WatchOut :=
  let cycle (w : Watch) : WatchOut := if cycleStart then w.cycleWork tb k figures else { slot := w }
  let halt (w : Watch) : WatchOut := if protection then w.abandon tb k else { slot := w }
  let opening : WatchOut := if released then w.abandon tb k else { slot := w }
  if watchFirst then (opening.andThen cycle).andThen halt else (opening.andThen halt).andThen cycle

/-- The slot as an arming sets it (R143, step 2). -/
def armedWatch (a : Arming) : Watch :=
  { armed := true, episode := a.episode, reference := a.reference, iref := a.iref, part := a.part, cycles := 0,
    inBand := 0, runStart := 0, lastRms := none }

/-- A slot is armed at a last END: an ARMED watch is SUPERSEDED first, and a watch whose Iref is below the current
floor ends at once with NO_REFERENCE (R143), its items left in the IDLE slot (log entry 32). -/
def Watch.arm (w : Watch) (tb : Timebase) (k : LaneId) (floor : Nat) (a : Arming) : WatchOut :=
  let superseded : List Record :=
    if w.armed then [watchRecord tb k w .superseded w.cycles (lastRmsField w.lastRms)] else []
  if a.iref < floor then
    { slot := { armedWatch a with armed := false }
      records := superseded ++ [watchRecord tb k (armedWatch a) .noReference 0 (BitVec.ofNat 16 a.iref)] }
  else { slot := armedWatch a, records := superseded }

/-- Arm a slot when its lane hands it an arming. -/
def Watch.armIf (w : Watch) (tb : Timebase) (k : LaneId) (floor : Nat) (a : Option Arming) : WatchOut :=
  match a with
  | some a => w.arm tb k floor a
  | none => { slot := w }

end Sys2Proof.Machine
end

