-- ==== Sys2Proof/Machine/SampleOps.lean ====
section
/-! DEFINITION. One sample event (R88): the work of every block that acts per sample, stage by stage, and what comes
about in it. The stages stand in the order the rules give: the Timebase first, the opening of the Run Controller
(R149), the measurement and any protection, then the blocks that take the engine state as those leave it. -/

namespace Sys2Proof.Machine

/-- What may come about at a sample event that a row of the opcode table names. -/
inductive Happening where
  | lane (k : LaneId) (what : LaneHappening)
  | releaseActedOn
  | cycleStart
  | restart
  | softstartComplete
  | releaseRampComplete
  | relayOperationComplete (x : Phase)
  | enterSoftstart
  | enterRunning
  | released
  | deferredClear
  | trip
  | measLost
  | cycleSummary
  | recovered (k : LaneId)
  | notRecovered (k : LaneId)
  | markerPulseDue
  | markerCountdownEnd
  | busWaitExpiry
  deriving DecidableEq, Repr

/-- A sample event in progress: the state as the stages so far leave it, the records of the event by their place in the
queue order of R165, what has come about, and what later stages take from earlier ones. -/
structure Work where
  state : State
  cycleStart : Bool := false
  restart : Bool := false
  advance : Nat := 0
  /-- the engine state as the opening leaves it (R149) -/
  opened : EngineState := .standby
  entered : Bool := false
  released : Bool := false
  protection : Bool := false
  /-- the relay states before the driver's work (R82) -/
  relayBefore : PerPhase RelayState := perPhase .opened
  spans : PerPhase (Nat × Bool) := perPhase (0, false)
  markerRequest : Bool := false
  softDone : Bool := false
  clamped : PerPhase Bool := perPhase false
  controlRecords : List Record := []
  laneRecords : PerLane (List Record) := perLane []
  watchRecords : PerLane (List Record) := perLane []
  measureRecords : List Record := []
  dropsHead : Bool := false
  happened : List Happening := []

/-- Something has come about when a condition holds. -/
def happens (b : Bool) (h : Happening) : List Happening := if b then [h] else []

/-! ### Timebase and wait timer -/

/-- The Timebase takes the sample event (R89, R92). -/
def Work.tick (w : Work) : Work :=
  let tb := w.state.timebase
  let restart := decide (tb.restartDue ≠ .none)
  { w with
    state := { w.state with timebase := tb.tick w.state.control.mode }
    cycleStart := tb.wraps
    restart := restart
    advance := tb.applied
    happened := w.happened ++ happens tb.wraps .cycleStart ++ happens restart .restart }

/-- The wait limit of a bus transaction in sample periods (R15). -/
def waitLimit : Nat := 64

/-- The wait timer of a transaction in flight increases by 1 (R15). -/
def Work.waitTimer (w : Work) : Work :=
  { w with
    state := { w.state with
      port := { w.state.port with slot := w.state.port.slot.map fun t => { t with timer := t.timer + 1 } } } }

/-- Whether the transaction in flight has reached the wait limit (R15). -/
def Work.expired (w : Work) : Bool :=
  match w.state.port.slot with
  | some t => decide (waitLimit ≤ t.timer)
  | none => false

/-- The expiry of the transaction in flight, taken at this point of the sample event when the inputs say so (R15). -/
def Work.expire (now : Bool) (w : Work) : Work :=
  if now && w.expired then
    let f := w.state.fail
    { w with
      state := f.state
      controlRecords := w.controlRecords ++ f.records.filter fun r => r.lane == none
      laneRecords := tabLane fun k => getLane w.laneRecords k ++ f.records.filter fun r => r.lane == some k
      dropsHead := w.dropsHead || f.dropsHead
      happened := w.happened ++ [.busWaitExpiry] }
  else w

/-- The head record whose write has expired leaves the queue and is counted as a drop (R13, R167). -/
def Work.dropHead (now : Bool) (w : Work) : Work :=
  if now && w.dropsHead then
    { w with state := { w.state with journal := w.state.journal.dropHead }, dropsHead := false }
  else w

/-! ### The opening (R149) -/

/-- The controller enters the state that the progress due calls for (R149, R152, R153, R155, R159). -/
def Work.enterProgress (w : Work) : Work :=
  let s := w.state
  let c := s.control
  match c.progress with
  | .none => w
  | .softstart =>
    { w with
      state := { s with
        control := { c with engine := .softstart, progress := .none }
        composer := { s.composer with softAdvance := 0 } }
      entered := true
      controlRecords := w.controlRecords ++ [engineRecord s.timebase .softstart .closed]
      happened := w.happened ++ [.enterSoftstart] }
  | .running =>
    { w with
      state := { s with
        control := { c with engine := .running, progress := .none }
        window := s.window.setFlag .run }
      controlRecords := w.controlRecords ++ [engineRecord s.timebase .running .softstartDone]
      happened := w.happened ++ [.enterRunning] }
  | .standby =>
    let deferred := decide (c.engine = .tripped)
    { w with
      state := { s with
        control := { c with
          engine := .standby, progress := .none, deferredClear := if deferred then false else c.deferredClear }
        window := s.window.setFlag .run }
      controlRecords :=
        w.controlRecords ++ [engineRecord s.timebase .standby (if deferred then .clear else .released)]
      happened := w.happened ++ [if deferred then .deferredClear else .released] }

/-- The states in which a pending RELEASE is acted on (R154). -/
def EngineState.releasable : EngineState → Bool
  | .closing => true
  | .softstart => true
  | .running => true
  | _ => false

/-- The controller acts on a pending RELEASE (R154). -/
def Work.actOnRelease (w : Work) : Work :=
  let s := w.state
  let c := s.control
  if c.pendingRelease then
    if c.engine.releasable then
      let fromClosing := decide (c.engine = .closing)
      { w with
        state := { s with
          control := { c with engine := .releasing, pendingRelease := false }
          composer := s.composer.release fromClosing }
        released := true
        controlRecords := w.controlRecords ++ [engineRecord s.timebase .releasing .release]
        happened := w.happened ++ [.releaseActedOn] ++ happens fromClosing .releaseRampComplete }
    else { w with state := { s with control := { c with pendingRelease := false } } }
  else w

/-- The opening of the sample event; the engine state it leaves is the one the Measurement Unit takes (R149). -/
def Work.opening (w : Work) : Work :=
  let w := w.enterProgress.actOnRelease
  { w with opened := w.state.control.engine }

/-! ### The sampled lines, the measurement, and the cycle start's scan -/

/-- READY and FAULT are sampled, and FLAGS.FAULT is set by a new assertion (R123, R157). -/
def Work.sampleLines (i : SampleInputs) (w : Work) : Work :=
  let s := w.state
  { w with
    state := { s with
      link := s.link.sampleLines i.ready i.fault
      window := s.window.setFlagIf (i.fault && !s.control.previousFault) .fault
      control := { s.control with previousFault := i.fault } } }

/-- The Measurement Unit's work (R135 to R141), with the clip counts the synthesizer hands over at a cycle start and
clears there and at a restart (R113). -/
def Work.measure (w : Work) : Work :=
  let s := w.state
  let running := decide (w.opened = .running)
  let m := s.measure.sample s.control.mode w.opened.live w.cycleStart w.restart s.synth.cycleClips
  let due := w.cycleStart && m.summaryDue running
  { w with
    state := { s with
      measure := m.afterSummary w.cycleStart running
      synth := if w.cycleStart || w.restart then { s.synth with cycleClips := perPhase 0 } else s.synth }
    measureRecords := w.measureRecords ++ if due then [summaryRecord s.timebase m.figures] else []
    happened := w.happened ++ happens due .cycleSummary }

/-- A cycle start requests a scan in SOFTSTART, RUNNING and RELEASING (R5). -/
def Work.cycleScan (w : Work) : Work :=
  if w.cycleStart && w.opened.scans then
    { w with state := { w.state with port := w.state.port.requestScan } }
  else w

/-! ### Protection (R156 to R158) -/

/-- What may be present at one sample event in a live state (R158). -/
inductive Protection where
  | trip | fault | measLost
  deriving DecidableEq, Repr

/-- The order in which the protections are taken (R158). -/
def orderOf : ProtectionOrder → List Protection
  | .tripFaultLoss => [.trip, .fault, .measLost]
  | .tripLossFault => [.trip, .measLost, .fault]
  | .faultTripLoss => [.fault, .trip, .measLost]
  | .faultLossTrip => [.fault, .measLost, .trip]
  | .lossTripFault => [.measLost, .trip, .fault]
  | .lossFaultTrip => [.measLost, .fault, .trip]

/-- Whether a protection is present at the sample event: a trip report, an asserted FAULT line in a live state, a
measurement loss (R141, R157, R136). -/
def Work.presents (i : SampleInputs) (w : Work) : Protection → Bool
  | .trip => (w.state.measure.tripReport w.state.control.mode w.opened.live).isSome
  | .fault => w.opened.live && i.fault
  | .measLost => w.state.measure.lost w.opened.live

/-- The protection the controller acts on: the first taken of those present (R158). -/
def Work.protectionTaken (i : SampleInputs) (w : Work) : Option Protection :=
  (orderOf i.order).find? (w.presents i)

/-- The engine state, flag, ENGINE record and row of a protection acted on (R156, R157). -/
def Work.act (w : Work) (newState : EngineState) (flag : Flag) (record : Record) (what : List Happening) : Work :=
  let s := w.state
  { w with
    state := { s with
      control := { s.control with engine := newState }
      composer := { s.composer with rampRunning := false }
      window := s.window.setFlag flag }
    protection := true
    controlRecords := w.controlRecords ++ [record]
    happened := w.happened ++ what }

/-- The controller acts on a protection report at the sample event at which it is made (R156, R157). -/
def Work.protect (i : SampleInputs) (w : Work) : Work :=
  let s := w.state
  match w.protectionTaken i with
  | none => w
  | some .trip =>
    let report := (s.measure.tripReport s.control.mode w.opened.live).getD (.A, 0)
    w.act .tripped .trip (engineRecord s.timebase .tripped .trip .none (some report.1) report.2) [.trip]
  | some .fault => w.act .faulted .fault (engineRecord s.timebase .faulted .fault) []
  | some .measLost => w.act .faulted .fault (engineRecord s.timebase .faulted .measLost) [.measLost]

/-! ### Watches, relays, lanes -/

/-- What a watch's ending is among the rows of the table. -/
def watchHappening (k : LaneId) : Option WatchOutcome → List Happening
  | some .recovered => [.recovered k]
  | some .notRecovered => [.notRecovered k]
  | _ => []

/-- The watch slots' work before any arming (R144, R145). -/
def Work.watches (i : SampleInputs) (w : Work) : Work :=
  let s := w.state
  let out (k : LaneId) : WatchOut :=
    (getLane s.watches k).sampleWork s.timebase k s.measure.figures w.cycleStart w.released w.protection
      (getLane i.watchFirst k)
  let outs := tabLane out
  { w with
    state := { s with watches := tabLane fun k => (getLane outs k).slot }
    watchRecords := tabLane fun k => getLane w.watchRecords k ++ (getLane outs k).records
    happened := w.happened ++ allLanes.flatMap fun k => watchHappening k (getLane outs k).ended }

/-- Steps 1 and 2 of the relay driver, with the figures the lanes take from them (R128, R132). -/
def Work.advanceRelays (w : Work) : Work :=
  let s := w.state
  let mode := s.control.mode
  let rs := s.relays.advance mode
  { w with
    state := { s with relays := rs }
    relayBefore := tabPhase fun x => (getPhase s.relays.relay x).state
    spans := tabPhase fun x => (getPhase rs.relay x).span
    happened := w.happened ++ allPhases.flatMap fun x =>
      happens (present mode x && (getPhase s.relays.relay x).completes) (.relayOperationComplete x) }

/-- What lane k reads at the sample event. -/
def Work.sampleEnv (i : SampleInputs) (w : Work) (k : LaneId) : SampleEnv :=
  { toLaneEnv := w.state.laneEnv k
    cycleStart := w.cycleStart
    advance := w.advance
    figures := w.state.measure.figures
    spans := w.spans
    lastComposed := w.state.composer.lastComposed
    steady := w.state.composer.steady
    trig := i.trig
    previousTrig := w.state.previousTrig
    released := w.released
    protection := w.protection }

/-- The lanes' work, the claims they hold after it, and what it hands to the journal, to the watches, to the marker and
to the Plan Port (R50 to R69, R73, R143). -/
def Work.lanes (i : SampleInputs) (w : Work) : Work :=
  let s := w.state
  let outs := lanesWork (tabLane (w.sampleEnv i)) s.lanes
  let lanes := tabLane fun k => (getLane outs k).lane
  let armed := tabLane fun k =>
    (getLane s.watches k).armIf s.timebase k s.measure.currentFloor (getLane outs k).arming
  { w with
    state := { s with
      lanes := lanes
      composer := { s.composer with claims := claimsOf lanes }
      port := s.port.discardFetches fun k => (getLane outs k).discards
      watches := tabLane fun k => (getLane armed k).slot
      window := s.window.setFlagIf (allLanes.any fun k => (getLane outs k).plan) .plan
      previousTrig := some i.trig }
    laneRecords := tabLane fun k => getLane w.laneRecords k ++ (getLane outs k).records
    watchRecords := tabLane fun k => getLane w.watchRecords k ++ (getLane armed k).records
    markerRequest := allLanes.any fun k => (getLane outs k).marker
    happened := w.happened ++ allLanes.flatMap fun k => (getLane outs k).happened.map (.lane k) }

/-! ### Frequency, composition, relays, waveform, link -/

/-- The frequency rule at a cycle start, on the FREQ set for the sample (R94, R95). -/
def Work.frequency (w : Work) : Work :=
  let s := w.state
  if w.cycleStart then
    { w with state := { s with timebase := s.timebase.applyFrequency (s.composer.freqOwner s.lanes) } }
  else w

/-- The composer's work: the ramps, the composed levels and the relay commands (R78 to R81). -/
def Work.compose (w : Work) : Work :=
  let s := w.state
  let engine := s.control.engine
  let c := s.composer.advanceRamps engine w.entered w.released w.advance
  let ends := c.rampEnds engine
  let c := if ends then c.endRamp else c
  { w with
    state := { s with composer := c.compose s.control.mode engine s.lanes }
    softDone := c.softDone engine
    happened := w.happened ++ happens (c.softDone engine) .softstartComplete ++ happens ends .releaseRampComplete }

/-- Step 3 of the relay driver (R128 to R130). -/
def Work.commandRelays (w : Work) : Work :=
  let s := w.state
  { w with
    state := { s with relays := s.relays.command s.control.mode s.composer.closeCommand w.protection } }

/-- The applied envelopes, with each relay state taken after or before the driver's work (R82). -/
def Work.appliedEnvelopes (i : SampleInputs) (w : Work) : PerPhase Int :=
  tabPhase fun x =>
    appliedEnvelope (getPhase w.state.composer.lastComposed x)
      (if getPhase i.relayBefore x then getPhase w.relayBefore x else (getPhase w.state.relays.relay x).state)

/-- The synthesizer's codes, the clip counts they add, and the frame's way through the drive link, with the marker
(R113, R114, R117 to R121, R124). -/
def Work.output (i : SampleInputs) (w : Work) : Work :=
  let s := w.state
  let engine := s.control.engine
  let codes := s.synth.codes s.control.mode engine s.timebase s.composer s.lanes (w.appliedEnvelopes i)
  let clamped := tabPhase fun x => (getPhase codes x).2
  let zero := decide (engine = .tripped) || decide (engine = .faulted)
  { w with
    state := { s with
      synth := s.synth.countClips clamped
      lanes := tabLane fun k => (getLane s.lanes k).addClips (clipsFor s.composer.claims clamped k)
      link := (s.link.sendFrame zero (tabPhase fun x => (getPhase codes x).1)).runMarker w.markerRequest }
    clamped := clamped
    happened := w.happened ++ happens s.link.markerRequest2 .markerPulseDue ++
      happens s.link.markerEnds .markerCountdownEnd }

/-! ### Progress reports and the queue -/

/-- The progress due that the reports of the sample event call for (R149, R152, R153, R155, R159). -/
def Work.progressDue (w : Work) : Progress :=
  let s := w.state
  let mode := s.control.mode
  match s.control.engine with
  | .closing => if allPresent mode s.relays .closed then .softstart else .none
  | .softstart => if w.softDone then .running else .none
  | .releasing => if s.composer.rampComplete && allPresent mode s.relays .opened then .standby else .none
  | .tripped => if s.control.deferredClear && allPresent mode s.relays .opened then .standby else .none
  | _ => .none

/-- The controller takes the progress reports (R149). -/
def Work.report (w : Work) : Work :=
  { w with state := { w.state with control := { w.state.control with progress := w.progressDue } } }

/-- The records of the sample event in the queue order of R165. -/
def Work.ordered (w : Work) : List Record :=
  w.controlRecords ++ allLanes.flatMap (getLane w.laneRecords) ++ allLanes.flatMap (getLane w.watchRecords) ++
    w.measureRecords

/-- The records of the sample event join the queue (R165). -/
def Work.enqueue (w : Work) : Work :=
  { w with state := { w.state with journal := w.state.journal.postAll w.ordered } }

/-! ### The whole sample event -/

/-- The stages up to the protection: what settles the engine state of the sample event (R149). -/
def Work.settle (i : SampleInputs) (w : Work) : Work :=
  ((((((w.tick.waitTimer.expire i.expiryFirst).dropHead true).opening).sampleLines i).measure).cycleScan).protect i

/-- The stages of the blocks that take the engine state as the protection leaves it (R149). -/
def Work.perform (i : SampleInputs) (w : Work) : Work :=
  ((((((w.watches i).advanceRelays).lanes i).frequency).compose).commandRelays).output i

/-- The stages that close the sample event. -/
def Work.close (i : SampleInputs) (w : Work) : Work :=
  (((w.report).expire (!i.expiryFirst)).enqueue).dropHead true

/-- A sample event from the state before it (R88). While RST is held low there is none (R176, R88). -/
def sampleWork (i : SampleInputs) (s : State) : Work :=
  let w : Work := { state := s }
  if s.rstLow then w else ((w.settle i).perform i).close i

/-- Whether something comes about at the sample event from a state. -/
def comesAbout (h : Happening) (i : SampleInputs) (s : State) : Bool := (sampleWork i s).happened.contains h

/-- A row that names what comes about at a sample event is that sample event. Where it does not come about the row's
event does not take place, and nothing changes (log entry 1). -/
def sampleRow (h : Happening) (i : SampleInputs) (s : State) : Host.Outcome State Fault Refusal :=
  let w := sampleWork i s
  if w.happened.contains h then .next w.state else .next s

end Sys2Proof.Machine
end

