-- ==== Sys2Proof/Machine/SampleRows.lean ====
section
/-! DEFINITION. SAMPLE_EVENT, and the rows of the opcode table that name what comes about at a sample event: each is the
sample event at which it comes about (log entry 1). -/

namespace Sys2Proof.Machine

/-- SAMPLE_EVENT (R88): every per-sample block acts on the sample, and everything due at it comes about. -/
def execSampleEvent (i : SampleInputs) (s : State) : Host.Outcome State Fault Refusal := .next (sampleWork i s).state

/-- STOP_CARRIED_OUT (R66): the sample event at which a pending stop of the lane is carried out. -/
def execStopCarriedOut (k : LaneId) (i : SampleInputs) (s : State) : Host.Outcome State Fault Refusal :=
  sampleRow (.lane k .stopped) i s

/-- RELEASE_ACTED_ON (R154): the sample event at which a pending RELEASE is acted on. -/
def execReleaseActedOn (i : SampleInputs) (s : State) : Host.Outcome State Fault Refusal :=
  sampleRow .releaseActedOn i s

/-- CYCLE_START (R89): the sample event at which the reference accumulator wraps. -/
def execCycleStart (i : SampleInputs) (s : State) : Host.Outcome State Fault Refusal :=
  sampleRow .cycleStart i s

/-- RESTART (R92): the sample event at which a restart is taken. -/
def execRestart (i : SampleInputs) (s : State) : Host.Outcome State Fault Refusal :=
  sampleRow .restart i s

/-- APPLICATION_END (R62): the sample event at which the lane's application ends with END. -/
def execApplicationEnd (k : LaneId) (i : SampleInputs) (s : State) : Host.Outcome State Fault Refusal :=
  sampleRow (.lane k .applicationEnd) i s

/-- GAP_END (R63): the sample event at which the lane's gap ends. -/
def execGapEnd (k : LaneId) (i : SampleInputs) (s : State) : Host.Outcome State Fault Refusal :=
  sampleRow (.lane k .gapEnd) i s

/-- FLICKER_CHANGE (R59): the sample event at which the lane's flicker factor changes. -/
def execFlickerChange (k : LaneId) (i : SampleInputs) (s : State) : Host.Outcome State Fault Refusal :=
  sampleRow (.lane k .flickerChange) i s

/-- SOFTSTART_COMPLETE (R78): the sample event at which soft-start is complete. -/
def execSoftstartComplete (i : SampleInputs) (s : State) : Host.Outcome State Fault Refusal :=
  sampleRow .softstartComplete i s

/-- RELEASE_RAMP_COMPLETE (R79): the sample event at which the release ramp becomes complete. -/
def execReleaseRampComplete (i : SampleInputs) (s : State) : Host.Outcome State Fault Refusal :=
  sampleRow .releaseRampComplete i s

/-- RELAY_OPERATION_COMPLETE (R128): the sample event at which the phase's relay completes its operation. -/
def execRelayOperationComplete (x : Phase) (i : SampleInputs) (s : State) : Host.Outcome State Fault Refusal :=
  sampleRow (.relayOperationComplete x) i s

/-- ENTER_SOFTSTART (R152): the sample event whose opening enters SOFTSTART. -/
def execEnterSoftstart (i : SampleInputs) (s : State) : Host.Outcome State Fault Refusal :=
  sampleRow .enterSoftstart i s

/-- ENTER_RUNNING (R153): the sample event whose opening enters RUNNING. -/
def execEnterRunning (i : SampleInputs) (s : State) : Host.Outcome State Fault Refusal :=
  sampleRow .enterRunning i s

/-- RELEASED (R155): the sample event whose opening enters STANDBY at the end of a release. -/
def execReleased (i : SampleInputs) (s : State) : Host.Outcome State Fault Refusal :=
  sampleRow .released i s

/-- DEFERRED_CLEAR (R159): the sample event whose opening enters STANDBY by a deferred CLEAR. -/
def execDeferredClear (i : SampleInputs) (s : State) : Host.Outcome State Fault Refusal :=
  sampleRow .deferredClear i s

/-- TRIP (R156): the sample event at which a trip is acted on. -/
def execTrip (i : SampleInputs) (s : State) : Host.Outcome State Fault Refusal :=
  sampleRow .trip i s

/-- MEAS_LOST (R136, R157): the sample event at which a measurement loss is acted on. -/
def execMeasLost (i : SampleInputs) (s : State) : Host.Outcome State Fault Refusal :=
  sampleRow .measLost i s

/-- CYCLE_SUMMARY (R140): the cycle start at which a summary is posted. -/
def execCycleSummary (i : SampleInputs) (s : State) : Host.Outcome State Fault Refusal :=
  sampleRow .cycleSummary i s

/-- RECOVERED (R144): the cycle start at which the lane's watch ends RECOVERED. -/
def execRecovered (k : LaneId) (i : SampleInputs) (s : State) : Host.Outcome State Fault Refusal :=
  sampleRow (.recovered k) i s

/-- NOT_RECOVERED (R144): the cycle start at which the lane's watch ends NOT_RECOVERED. -/
def execNotRecovered (k : LaneId) (i : SampleInputs) (s : State) : Host.Outcome State Fault Refusal :=
  sampleRow (.notRecovered k) i s

/-- MARKER_PULSE_DUE (R124): the sample event at which a marker request falls due. -/
def execMarkerPulseDue (i : SampleInputs) (s : State) : Host.Outcome State Fault Refusal :=
  sampleRow .markerPulseDue i s

/-- MARKER_COUNTDOWN_END (R124): the sample event at which the marker goes low. -/
def execMarkerCountdownEnd (i : SampleInputs) (s : State) : Host.Outcome State Fault Refusal :=
  sampleRow .markerCountdownEnd i s

/-- BUS_WAIT_EXPIRY (R15): the sample event at which the wait timer reaches its limit. -/
def execBusWaitExpiry (i : SampleInputs) (s : State) : Host.Outcome State Fault Refusal :=
  sampleRow .busWaitExpiry i s

end Sys2Proof.Machine
end

