-- ==== Sys2Proof/Machine/WindowRows.lean ====
section
/-! DEFINITION. The register window: its writes as commands, the writes of FLAGS, MASK, PLANBASE and LANECTL, and what
a read returns (11, R170 to R175, R66, R67, R160). -/

namespace Sys2Proof.Machine

/-- FLAGS_WRITE (R173). -/
def execFlagsWrite (value : Word) (s : State) : Host.Outcome State Fault Refusal :=
  whileReleased s { s with window := s.window.writeFlags value }

/-- MASK_WRITE (R174). -/
def execMaskWrite (value : Word) (s : State) : Host.Outcome State Fault Refusal :=
  whileReleased s { s with window := s.window.writeMask value }

/-- PLANBASE_WRITE (R175, R1): accepted in STANDBY, ignored elsewhere. -/
def execPlanbaseWrite (value : Word) (s : State) : Host.Outcome State Fault Refusal :=
  whileReleased s
    (if s.control.engine = .standby then { s with port := { s.port with planBase := planBaseOf value } } else s)

/-- LANE_STOP (R66): a lane that is not HALTED has its stop pending, withdraws its waiting fetch request, and discards
the data of one in flight. -/
def execLaneStop (k : LaneId) (s : State) : Host.Outcome State Fault Refusal :=
  whileReleased s
    (if (getLane s.lanes k).state = .halted then s
     else
       { s with
         lanes := setLane s.lanes k { getLane s.lanes k with pendingStop := true, request := none }
         port := s.port.discardFetches fun j => decide (j = k) })

/-- LANE_RESUME (R67): a HALTED lane with no stop pending becomes IDLE and applies the cue test. -/
def execLaneResume (k : LaneId) (s : State) : Host.Outcome State Fault Refusal :=
  whileReleased s
    (if (getLane s.lanes k).state = .halted ∧ (getLane s.lanes k).pendingStop = false then
       s.runLane k fun e l => cueTest e { l with state := .idle, late := false }
     else s)

/-- The reserved offsets of the register window, 0x1C to 0x1F (R170). -/
def reservedOffset (offset : Nat) : Bool := decide (0x1C ≤ offset) && decide (offset < 0x20)

/-- IGNORED_REGISTER_WRITE (R170): a write to IDENT, to STAT or to the reserved offsets, and any write of less than a
full word, is ignored. A full word at another offset is no such write (log entry 6). -/
def execIgnoredRegisterWrite (offset size : Nat) (_value : Word) (s : State) : Host.Outcome State Fault Refusal :=
  if size < 4 ∨ offset = 0x00 ∨ offset = 0x08 ∨ reservedOffset offset then .next s else .refused .notAnIgnoredWrite

/-! ### Writes as commands -/

/-- The commands of a word written to CTRL, in the order of R160: with SRST the soft reset alone, else NUDGE, CLEAR,
START, RELEASE. -/
def ctrlCommands (value : Word) : List Instr :=
  if value.getLsbD 4 then [.softReset]
  else
    (if value.getLsbD 2 then [.nudge] else []) ++ (if value.getLsbD 3 then [.clear] else []) ++
      (if value.getLsbD 0 then [.start] else []) ++ (if value.getLsbD 1 then [.release] else [])

/-- The command of one lane's bits of a word written to LANECTL: with both bits the stop alone (R175, R67). -/
def laneCommand (value : Word) (k : LaneId) : List Instr :=
  if value.getLsbD (laneNumber k) then [.laneStop k]
  else if value.getLsbD (8 + laneNumber k) then [.laneResume k]
  else []

/-- The commands a write of the register window gives, `size` bytes at `offset` (R170, R171). -/
def commandsOfWrite (offset size : Nat) (value : Word) : List Instr :=
  if size < 4 then [.ignoredRegisterWrite offset size value]
  else
    match offset with
    | 0x04 => ctrlCommands value
    | 0x0C => [.flagsWrite value]
    | 0x10 => [.maskWrite value]
    | 0x14 => [.planbaseWrite value]
    | 0x18 => allLanes.flatMap (laneCommand value)
    | _ => [.ignoredRegisterWrite offset size value]

/-! ### Reads -/

/-- The code of a relay state in STAT (R170). -/
def relayCode : RelayState → Nat
  | .opened => 0 | .closing => 1 | .closed => 2 | .opening => 3

/-- IDENT: vendor code, revision, latched mode (R170). -/
def State.ident (s : State) : Word := 0x00D60100#32 ||| s.control.mode.setWidth 32

/-- A bit of a register by a condition. -/
def bitIf (b : Bool) (n : Nat) : Word := if b then 1#32 <<< n else 0

/-- STAT (R170, R172): the field of an absent phase reads 0. -/
def State.stat (s : State) : Word :=
  let relay (x : Phase) (n : Nat) : Word :=
    if present s.control.mode x then BitVec.ofNat 32 (relayCode (getPhase s.relays.relay x).state) <<< n else 0
  BitVec.ofNat 32 s.control.engine.code ||| relay .A 4 ||| relay .B 6 ||| relay .C 8 |||
    bitIf s.link.ready 10 ||| bitIf s.link.fault 11 ||| bitIf s.port.jbad 12 |||
    allLanes.foldl (fun w k => w ||| bitIf (decide ((getLane s.lanes k).state = .halted)) (16 + laneNumber k)) 0

/-- LANECTL as it reads: the lanes whose stop is pending (R175). -/
def State.laneCtl (s : State) : Word :=
  allLanes.foldl (fun w k => w ||| bitIf (getLane s.lanes k).pendingStop (laneNumber k)) 0

/-- A read of the window at an offset: a full word at a register's offset, 0 at a reserved offset, no answer while RST
is held low (R170, R176). A read changes no state. DESIGN CHOICE (log entry 25): what a read of less than a full word,
or one at any other offset, returns is not stated; this function answers none there. -/
def State.readRegister (s : State) (offset : Nat) : Option Word :=
  if s.rstLow then none
  else
    match offset with
    | 0x00 => some s.ident
    | 0x04 => some 0
    | 0x08 => some s.stat
    | 0x0C => some (s.window.flags &&& flagBits)
    | 0x10 => some s.window.mask
    | 0x14 => some s.port.planBase
    | 0x18 => some s.laneCtl
    | _ => if reservedOffset offset then some 0 else none

/-- The relay drive outputs RLYA, RLYB, RLYC: deasserted while RST is held low (R126, R176). -/
def State.relayOutputs (s : State) : PerPhase Bool :=
  tabPhase fun x => !s.rstLow && (getPhase s.relays.relay x).driveOutput

end Sys2Proof.Machine
end

