-- ==== Sys2Proof/Machine/Dispatch.lean ====
section
/-! DEFINITION. One arm per command, in the order of spec/opcode_table.json. -/

namespace Sys2Proof.Machine

def exec (i : Instr) (s : State) : Host.Outcome State Fault Refusal :=
  match i with
  | .powerOnReset mode1 mode0 => Sys2Proof.Machine.execPowerOnReset mode1 mode0 s
  | .start => Sys2Proof.Machine.execStart s
  | .release => Sys2Proof.Machine.execRelease s
  | .nudge => Sys2Proof.Machine.execNudge s
  | .clear => Sys2Proof.Machine.execClear s
  | .softReset => Sys2Proof.Machine.execSoftReset s
  | .flagsWrite value => Sys2Proof.Machine.execFlagsWrite value s
  | .maskWrite value => Sys2Proof.Machine.execMaskWrite value s
  | .planbaseWrite value => Sys2Proof.Machine.execPlanbaseWrite value s
  | .laneStop k => Sys2Proof.Machine.execLaneStop k s
  | .laneResume k => Sys2Proof.Machine.execLaneResume k s
  | .ignoredRegisterWrite offset size value => Sys2Proof.Machine.execIgnoredRegisterWrite offset size value s
  | .sampleEvent inp => Sys2Proof.Machine.execSampleEvent inp s
  | .stopCarriedOut k inp => Sys2Proof.Machine.execStopCarriedOut k inp s
  | .releaseActedOn inp => Sys2Proof.Machine.execReleaseActedOn inp s
  | .cycleStart inp => Sys2Proof.Machine.execCycleStart inp s
  | .restart inp => Sys2Proof.Machine.execRestart inp s
  | .applicationEnd k inp => Sys2Proof.Machine.execApplicationEnd k inp s
  | .gapEnd k inp => Sys2Proof.Machine.execGapEnd k inp s
  | .flickerChange k inp => Sys2Proof.Machine.execFlickerChange k inp s
  | .softstartComplete inp => Sys2Proof.Machine.execSoftstartComplete inp s
  | .releaseRampComplete inp => Sys2Proof.Machine.execReleaseRampComplete inp s
  | .relayOperationComplete x inp => Sys2Proof.Machine.execRelayOperationComplete x inp s
  | .enterSoftstart inp => Sys2Proof.Machine.execEnterSoftstart inp s
  | .enterRunning inp => Sys2Proof.Machine.execEnterRunning inp s
  | .released inp => Sys2Proof.Machine.execReleased inp s
  | .deferredClear inp => Sys2Proof.Machine.execDeferredClear inp s
  | .trip inp => Sys2Proof.Machine.execTrip inp s
  | .measLost inp => Sys2Proof.Machine.execMeasLost inp s
  | .cycleSummary inp => Sys2Proof.Machine.execCycleSummary inp s
  | .recovered k inp => Sys2Proof.Machine.execRecovered k inp s
  | .notRecovered k inp => Sys2Proof.Machine.execNotRecovered k inp s
  | .markerPulseDue inp => Sys2Proof.Machine.execMarkerPulseDue inp s
  | .markerCountdownEnd inp => Sys2Proof.Machine.execMarkerCountdownEnd inp s
  | .measurementFrame frame => Sys2Proof.Machine.execMeasurementFrame frame s
  | .arbiterGrant => Sys2Proof.Machine.execArbiterGrant s
  | .loadComplete => Sys2Proof.Machine.execLoadComplete s
  | .scanComplete words => Sys2Proof.Machine.execScanComplete words s
  | .cueFetchComplete word => Sys2Proof.Machine.execCueFetchComplete word s
  | .episodeFetchComplete words => Sys2Proof.Machine.execEpisodeFetchComplete words s
  | .shapeCountReadComplete word => Sys2Proof.Machine.execShapeCountReadComplete word s
  | .shapeComponentReadComplete words => Sys2Proof.Machine.execShapeComponentReadComplete words s
  | .takenCountWriteBackComplete => Sys2Proof.Machine.execTakenCountWriteBackComplete s
  | .journalRecordWriteComplete => Sys2Proof.Machine.execJournalRecordWriteComplete s
  | .writtenCountWriteComplete => Sys2Proof.Machine.execWrittenCountWriteComplete s
  | .busErrorResponse => Sys2Proof.Machine.execBusErrorResponse s
  | .busWaitExpiry inp => Sys2Proof.Machine.execBusWaitExpiry inp s
  | .rstHeldLow => Sys2Proof.Machine.execRstHeldLow s
  | .runSettingsReadComplete data => Sys2Proof.Machine.execRunSettingsReadComplete data s

end Sys2Proof.Machine
end

