-- ==== Sys2Proof/Safety.lean ====
section
/-! DEFINITION. The terms in which claims about the part are stated: what a sample event finds in the state before it,
the records it posts, the course of a lane through it, and the invariants of a safe run: the journal and the lines stand
as the rules say, the frequency and the levels stay in their ranges, and the lanes, the relays and the load agree with
the engine state. -/

namespace Sys2Proof.Machine

/-! ### What a sample event finds in the state before it -/

/-- No bus transaction reaches the wait limit at the next sample event (R15). -/
def State.noExpiry (s : State) : Bool :=
  match s.port.slot with
  | some t => decide (t.timer + 1 < 64)
  | none => true

/-- The engine state once any progress due is entered (R149, step 1). -/
def State.enteredState (s : State) : EngineState :=
  match s.control.progress with
  | .none => s.control.engine
  | .softstart => .softstart
  | .running => .running
  | .standby => .standby

/-- Whether a pending RELEASE is acted on at the opening of the next sample event (R154). -/
def State.releaseDue (s : State) : Bool :=
  s.control.pendingRelease &&
    (s.enteredState == .closing || s.enteredState == .softstart || s.enteredState == .running)

/-- The engine state as the opening of the next sample event leaves it (R149). -/
def State.openedState (s : State) : EngineState := if s.releaseDue then .releasing else s.enteredState

/-- The measurement of the next sample event: the held frame, or the last good one again (R135). -/
def State.sampleCodes (s : State) : Codes := s.measure.holder.getD s.measure.lastGood

/-- The next sample event brings a phase's run count to the trip count, or keeps it there (R141). -/
def State.tripsOn (s : State) (x : Phase) : Bool :=
  s.openedState.live && present s.control.mode x &&
    decide (s.measure.tripCode ≤ (getPhase s.sampleCodes.i x).natAbs) &&
    decide (s.measure.tripCount ≤ getPhase s.measure.runCount x + 1)

/-- The next sample event finds a trip report (R141). -/
def State.tripReported (s : State) : Bool := s.tripsOn .A || s.tripsOn .B || s.tripsOn .C

/-- The next sample event finds the live stale run at 256 (R136). -/
def State.measurementLost (s : State) : Bool :=
  s.openedState.live && s.measure.holder.isNone && decide (256 ≤ s.measure.liveStale + 1)

/-- The next sample event finds the FAULT line asserted in a live state (R157). -/
def State.faultActedOn (i : SampleInputs) (s : State) : Bool := s.openedState.live && i.fault

/-- The next sample event finds no trip report, no acted-on FAULT line and no measurement loss (R158). -/
def State.unprotected (i : SampleInputs) (s : State) : Bool :=
  !s.tripReported && !s.faultActedOn i && !s.measurementLost

/-- The next sample event is a cycle start (R89). -/
def State.cycleStartDue (s : State) : Bool :=
  s.timebase.restartDue == .none && decide (4294967296 ≤ s.timebase.theta.toNat + s.timebase.increment)

/-- A lane does its own work at the next sample event: RST is high, no stop is pending for the lane, and neither a
RELEASE nor a protection is acted on (R66, R68, R69). -/
def State.laneRuns (i : SampleInputs) (s : State) (k : LaneId) : Bool :=
  !s.rstLow && !(getLane s.lanes k).pendingStop && !s.releaseDue && s.unprotected i

/-- The protection that the next sample event acts on: the first present, in the order it takes them (R158). -/
def State.protectionDue (i : SampleInputs) (s : State) : Option Protection :=
  (orderOf i.order).find? fun
    | .trip => s.tripReported
    | .fault => s.faultActedOn i
    | .measLost => s.measurementLost

/-- The increment of θ at the next sample event (R100). -/
def State.incrementDue (s : State) : Nat := if s.timebase.restartDue = .none then s.timebase.increment else 0

/-- The 64-bit advance of a lane at the next sample event in angle units (R57, R63). -/
def State.advanceDue (s : State) (k : LaneId) : Nat :=
  ((getLane s.lanes k).advance + BitVec.ofNat 64 s.incrementDue).toNat * 3600 / 4294967296

/-- A lane stops wanting its fetches at the next sample event: a trip or fault halts it, a RELEASE makes it IDLE, or its
pending stop is carried out (R17, R66, R68, R69). -/
def State.discardsDue (i : SampleInputs) (s : State) (k : LaneId) : Bool :=
  let l := getLane s.lanes k
  if s.unprotected i then (s.releaseDue && l.state != .halted) || l.pendingStop else l.state != .halted

/-- The transaction in flight as the next sample event leaves it, where it does not reach the wait limit: its timer
counts, and the fetch of a lane released, halted or stopped there runs on unwanted (R15, R17). -/
def State.slotDue (i : SampleInputs) (s : State) : Option Transaction :=
  s.port.slot.map fun tr =>
    { tr with timer := tr.timer + 1, kind := tr.kind.unwanted (s.discardsDue i) }

/-! ### Records -/

/-- A record with the counters of a state, its gap not yet filled (R102, R164). -/
def State.record (t : State) (lane : Option LaneId) (episode : Half) (body : RecordBody) : Record :=
  { lane := lane, gap := 0, cycle := t.timebase.cycle, sample := BitVec.ofNat 16 t.timebase.sample, episode := episode
    body := body }

/-- From s to t a record was posted: it stands in the pending queue, or the queue is full and a drop was counted (R165,
R167). -/
def posted (s t : State) (r : Record) : Bool :=
  decide (r ∈ t.journal.queue) ||
    (decide (8 ≤ t.journal.queue.length) &&
      (decide (s.journal.drops < t.journal.drops) || decide (t.journal.drops = 4294967295)))

/-- The open span of a phase and whether it is stretched, as steps 1 and 2 of the relay driver leave the relay at the
next sample event (R128, R132). -/
def State.spanDue (s : State) (x : Phase) : Nat × Bool :=
  let r := if present s.control.mode x then (getPhase s.relays.relay x).advance else getPhase s.relays.relay x
  match r.state with
  | .opening => (r.openSpan + r.remaining, true)
  | .opened => (r.openSpan, false)
  | .closing => (0, false)
  | .closed => (0, false)

/-- STRETCHED and the open span of an application that ends at the next sample event: an OPEN episode carries the
largest span of its phases, and STRETCHED where one of them is stretched (R133). -/
def State.openFiguresDue (s : State) (ep : Episode) : Bool × Nat :=
  let figure (x : Phase) : Nat × Bool :=
    if ep.kind = .openCircuit ∧ getPhase ep.mask x = true then s.spanDue x else (0, false)
  ((figure .A).2 || (figure .B).2 || (figure .C).2, max (figure .A).1 (max (figure .B).1 (figure .C).1))

/-- The RMS minimum and maximum of an application that began before the sample event from s to t: the RMS voltage of the
reference phase joins them where the sample event is a cycle start (R61). -/
def State.rmsDue (s t : State) (k : LaneId) (ep : Episode) : Nat × Nat :=
  let l := getLane s.lanes k
  let v := getPhase t.measure.figures.rmsV ep.reference
  if s.cycleStartDue then
    if l.rmsMin = 0xFFFF then (v, v) else (min l.rmsMin v, max l.rmsMax v)
  else (l.rmsMin, l.rmsMax)

/-- The EPISODE_END of a lane's application that ends or is cut at the sample event from s to t (R61, R62, R65, R133). -/
def State.endRecord (s t : State) (cut : Bool) (k : LaneId) (ep : Episode) : Record :=
  let l := getLane s.lanes k
  t.record (some k) (BitVec.ofNat 16 ep.index)
    (.episodeEnd cut (s.openFiguresDue ep).1 (BitVec.ofNat 16 (s.rmsDue t k ep).1) (BitVec.ofNat 16 (s.rmsDue t k ep).2)
      (BitVec.ofNat 32 l.clips) (BitVec.ofNat 32 (s.openFiguresDue ep).2) (BitVec.ofNat 16 l.application))

/-- The Iref of an application that begins at the sample event from s to t: for the first of an episode the RMS current
of the reference phase in the figures last delivered, and for a later one that of the first (R55). -/
def State.irefDue (s t : State) (k : LaneId) (ep : Episode) : Nat :=
  let l := getLane s.lanes k
  if l.application = 0 then getPhase t.measure.figures.rmsI ep.reference else l.iref

/-- The LATE detail of an application that begins at the next sample event: it is the first, the lane has its LATE mark,
and the trigger is evaluated for the first time (R49, and log entry 12 for the mark of that). -/
def State.lateDue (s : State) (k : LaneId) : Bool :=
  let l := getLane s.lanes k
  decide (l.application = 0) && l.late && !l.evaluated

/-- The EPISODE_START of a lane whose trigger fires at the sample event from s to t: its details, the last composed
levels of the phases of its mask, its Iref, and the number of the application that begins (R49, R55, R56). -/
def State.startRecord (s t : State) (k : LaneId) (ep : Episode) : Record :=
  t.record (some k) (BitVec.ofNat 16 ep.index)
    (.episodeStart ep.clamped ep.rampCut (s.lateDue k)
      (tabPhase fun x => if getPhase ep.mask x then BitVec.ofInt 16 (getPhase s.composer.lastComposed x) else 0)
      (BitVec.ofNat 16 (s.irefDue t k ep)) (BitVec.ofNat 16 ((getLane s.lanes k).application + 1)))

/-- The WATCH_RESULT of a watch of lane k that ends with an outcome at the sample event that leaves t, with the cycles
counted and the last RMS, or 0xFFFF where no cycle was counted (R146). -/
def Watch.endedRecord (w : Watch) (t : State) (k : LaneId) (outcome : WatchOutcome) (cycles : Nat)
    (lastRms : Option Nat) : Record :=
  t.record (some k) (BitVec.ofNat 16 w.episode)
    (.watchResult outcome (BitVec.ofNat 16 cycles)
      (match lastRms with
       | some n => BitVec.ofNat 16 n
       | none => 0xFFFF)
      (BitVec.ofNat 16 w.iref))

/-! ### The course of a lane from one state to the next -/

/-- D of a lane: its posted count less its taken count, modulo 2^32 (R7). -/
def State.cueAhead (s : State) (k : LaneId) : Nat := (getLane s.port.posted k - getLane s.port.taken k).toNat

/-- A refusal of lane k with CUE_COUNT is posted from s to t, with the slot of the taken count as its offending index
and FLAGS.PLAN set (R7, R8, R40). -/
def State.cueRefusedIn (s t : State) (k : LaneId) : Prop :=
  t.window.has .plan = true ∧
    posted s t (t.record (some k) 0xFFFF
      (.planRefused .cueCount (BitVec.ofNat 16 ((getLane s.port.taken k).toNat % 16)))) = true

/-- The next slot of lane k, whose episode ep has become current in an engine state: filled by its NEXT, or by the cue
test (R7, R46, R47). -/
def State.fillsNextIn (s t : State) (engine : EngineState) (k : LaneId) (ep : Episode) : Prop :=
  let m := getLane t.lanes k
  (∀ n, ep.next = some n → m.next = .fetching ∧ m.request = some (.episode n)) ∧
    (ep.next = none →
      (engine.cueOpen = false ∨ s.cueAhead k = 0 → m.next = .empty ∧ m.request = none) ∧
      (engine.cueOpen = true → 1 ≤ s.cueAhead k → s.cueAhead k ≤ 16 → (getLane s.lanes k).pendingStop = false →
        m.next = .fetching ∧ m.request = some .cue) ∧
      (engine.cueOpen = true → 17 ≤ s.cueAhead k → m.next = .refused .cueCount 0xFFFF ∧ s.cueRefusedIn t k))

/-- Lane k acts on its next slot after the last application of its episode, at the sample event from s to t (R48). -/
def State.actsOnNextIn (s t : State) (k : LaneId) : Prop :=
  let l := getLane s.lanes k
  let m := getLane t.lanes k
  (∀ ep, l.next = .loaded ep →
    m.state = .waiting ∧ m.current = some ep ∧ m.application = 0 ∧ m.late = false ∧ m.evaluationMark = false ∧
      s.fillsNextIn t s.openedState k ep) ∧
  (l.next = .fetching → m.state = .fetching ∧ m.late = true ∧ m.current = none) ∧
  (∀ cause index, l.next = .refused cause index →
    m.state = .halted ∧ m.current = none ∧ posted s t (t.record (some k) index (.laneHalted cause)) = true) ∧
  (l.next = .empty →
    (s.openedState.cueOpen = false ∨ s.cueAhead k = 0 → m.state = .idle) ∧
    (s.openedState.cueOpen = true → 1 ≤ s.cueAhead k → s.cueAhead k ≤ 16 →
      m.state = .fetching ∧ m.request = some .cue ∧ m.late = false) ∧
    (s.openedState.cueOpen = true → 17 ≤ s.cueAhead k →
      m.state = .halted ∧ m.current = none ∧ s.cueRefusedIn t k ∧
        posted s t (t.record (some k) 0xFFFF (.laneHalted .cueCount)) = true))

/-- Slot k is armed for the episode ep at the sample event from s to t: an ARMED watch that does not end at that sample
event, a cycle start counting first, is SUPERSEDED, and the new one is ARMED, or ends at once with NO_REFERENCE where
its Iref is below the current floor (R143). -/
def State.armsIn (s t : State) (k : LaneId) (ep : Episode) (part : WatchPart) (iref : Nat) : Prop :=
  let w := getLane s.watches k
  let current := getPhase t.measure.figures.rmsI w.reference
  let inBand : Nat := if |(current : Int) - w.iref| * 100 ≤ w.part.band * w.iref then w.inBand + 1 else 0
  (w.armed = true → s.cycleStartDue = false →
    posted s t (w.endedRecord t k .superseded w.cycles w.lastRms) = true) ∧
  (w.armed = true → s.cycleStartDue = true → inBand < w.part.hold → w.cycles + 1 < w.part.limit →
    posted s t (w.endedRecord t k .superseded (w.cycles + 1) (some current)) = true) ∧
  (iref < s.measure.currentFloor →
    (getLane t.watches k).armed = false ∧
      posted s t (t.record (some k) (BitVec.ofNat 16 ep.index)
        (.watchResult .noReference 0 (BitVec.ofNat 16 iref) (BitVec.ofNat 16 iref))) = true) ∧
  (s.measure.currentFloor ≤ iref →
    getLane t.watches k = { armed := true, episode := ep.index, reference := ep.reference, iref := iref, part := part
                            cycles := 0, inBand := 0, runStart := 0, lastRms := none })

/-- What the END of application number n of a lane's episode leads to at the sample event from s to t: the next
application is awaited, at once or after the gap, or after the last one the watch is armed and the next slot acted on
(R48, R62 to R64, R143). -/
def State.endsIn (s t : State) (k : LaneId) (ep : Episode) (n iref : Nat) : Prop :=
  let m := getLane t.lanes k
  (ep.repeatCount = 0 ∨ n < ep.repeatCount →
    m.current = some ep ∧ m.application = n ∧
      (ep.repeatGap = 0 → m.state = .waiting ∧ m.evaluationMark = false) ∧
      (1 ≤ ep.repeatGap → m.state = .gap ∧ m.advance = 0) ∧
      ((getLane s.watches k).armed = false → (getLane t.watches k).armed = false)) ∧
  (1 ≤ ep.repeatCount → ep.repeatCount ≤ n →
    (∀ part, ep.watch = some part → s.armsIn t k ep part iref) ∧ s.actsOnNextIn t k)

/-- The lane fires at the sample event from s to t: EPISODE_START is posted, for MARK a MARKER too, and MARK_OUT
requests the marker. An application of a duration above 0 is ACTIVE, its number one above the last, with its start
values, its Iref, the figures of no cycle, and its claims; one of duration 0 ends there, with EPISODE_END (R49, R55 to
R57, R61, R62, R73). -/
def State.firesIn (s t : State) (k : LaneId) (ep : Episode) : Prop :=
  let l := getLane s.lanes k
  let m := getLane t.lanes k
  posted s t (s.startRecord t k ep) = true ∧
    (∀ tag, ep.kind = .mark tag →
      posted s t (t.record (some k) (BitVec.ofNat 16 ep.index) (.marker tag)) = true) ∧
    (ep.markOut = true → t.link.markerRequest1 = true) ∧
    (ep.duration = 0 →
      m.state ≠ .active ∧
        posted s t (t.record (some k) (BitVec.ofNat 16 ep.index)
          (.episodeEnd false (s.openFiguresDue ep).1 0xFFFF 0xFFFF 0 (BitVec.ofNat 32 (s.openFiguresDue ep).2)
            (BitVec.ofNat 16 (l.application + 1)))) = true ∧
        s.endsIn t k ep (l.application + 1) (s.irefDue t k ep)) ∧
    (1 ≤ ep.duration →
      m.state = .active ∧ m.current = some ep ∧ m.application = l.application + 1 ∧ m.advance = 0 ∧ m.late = false ∧
        m.iref = s.irefDue t k ep ∧ m.rmsMin = 0xFFFF ∧ m.rmsMax = 0xFFFF ∧
        (∀ x, getPhase m.start x = if getPhase ep.mask x then getPhase s.composer.lastComposed x else 0) ∧
        ∀ x, getPhase ep.mask x = true → ep.kind.claimsPhases = true → t.composer.claims.governs x k = true)

/-! ### Running several commands -/

/-- The state after some commands in turn, none where one of them stops. -/
def runAll : List Instr → State → Option State
  | [], s => some s
  | c :: rest, s =>
    match exec c s with
    | .next t => runAll rest t
    | _ => none

/-! ### The journal, the window and the base -/

/-- At most 8 records wait (R165), the drop count holds at its top (R167), FLAGS and MASK hold their listed bits alone
(R173, R174), the base is 4096-byte aligned (R1), and while RST is high each line follows its condition (R174). -/
structure State.BooksInOrder (s : State) : Prop where
  queue : s.journal.queue.length ≤ 8
  drops : s.journal.drops ≤ 4294967295
  flags : s.window.flags.toNat < 64
  mask : s.window.mask &&& 0xFFFFC0C0#32 = 0
  base : s.port.planBase.toNat % 4096 = 0
  alert : s.rstLow = false → s.window.alert = alertCondition s.window.flags s.window.mask
  notice : s.rstLow = false → s.window.notice = noticeCondition s.window.flags s.window.mask

/-! ### Values in range -/

/-- The episodes a fetch carries. -/
def Fetch.episodes : Fetch → List Episode
  | .cue => []
  | .episode _ => []
  | .shapeCount ep => [ep]
  | .shapeComponents ep _ => [ep]

/-- The episode a next slot holds. -/
def NextSlot.episodes : NextSlot → List Episode
  | .empty => []
  | .fetching => []
  | .loaded ep => [ep]
  | .refused _ _ => []

/-- The episodes a lane holds, and the one its waiting request carries. -/
def Lane.episodes (l : Lane) : List Episode :=
  l.current.toList ++ l.next.episodes ++ l.request.toList.flatMap Fetch.episodes

/-- The episodes the transaction in flight carries. -/
def BusKind.episodes : BusKind → List Episode
  | .laneFetch _ f _ => f.episodes
  | _ => []

/-- Every episode the part holds. -/
def State.episodes (s : State) : List Episode :=
  allLanes.flatMap (fun k => (getLane s.lanes k).episodes) ++ s.port.slot.toList.flatMap fun t => t.kind.episodes

/-- A loaded kind holds values in the ranges of R26 to R30 alone. -/
def Kind.inRange : Kind → Bool
  | .level target => decide (target ≤ 20000)
  | .openCircuit => true
  | .shape _ => true
  | .flicker depth rate interval =>
    decide (depth ≤ 2000) && decide (1 ≤ rate) && decide (rate ≤ 3000) && interval == flickerInterval rate
  | .freq target _ => decide (45000 ≤ target) && decide (target ≤ 65000)
  | .jump units offset => decide (-1800 ≤ units) && decide (units ≤ 1800) && offset == jumpOffset units
  | .dwell => true
  | .mark _ => true

/-- A level lies in 0 to 20 000 (R80). -/
def levelInRange (n : Int) : Prop := 0 ≤ n ∧ n ≤ 20000

/-- A frequency lies in the run range (R94). -/
def freqInRange (mHz : Nat) : Prop := 45000 ≤ mHz ∧ mHz ≤ 65000

/-- Every loaded kind is in range, and so are the current, the nominal and the latched frequency, with the increment
the one that the current frequency forms (R90, R94). -/
structure State.FrequencyInRange (s : State) : Prop where
  kinds : ∀ ep ∈ s.episodes, ep.kind.inRange = true
  current : freqInRange s.timebase.frequency
  nominal : freqInRange s.timebase.nominal
  latched : freqInRange s.timebase.latchedNominal
  increment : s.timebase.increment = incrementOf s.timebase.frequency

/-- Every loaded kind is in range, every level that the lanes and the composer keep lies in 0 to 20 000 (R58, R77, R80),
and the latched trip count, operate times, peak codes and ceiling keep their clamps (R104, R127, R140). -/
structure State.LevelsInRange (s : State) : Prop where
  kinds : ∀ ep ∈ s.episodes, ep.kind.inRange = true
  starts : ∀ k x, levelInRange (getPhase (getLane s.lanes k).start x)
  envelopes : ∀ k x, levelInRange (getPhase (getLane s.lanes k).envelope x)
  origins : ∀ k x, levelInRange (getPhase (getLane s.lanes k).exitOrigin x)
  steady : ∀ x, getPhase s.composer.steady x ≤ 20000
  composed : ∀ x, levelInRange (getPhase s.composer.lastComposed x)
  releases : ∀ x, levelInRange (getPhase s.composer.releaseOrigin x)
  tripCount : 1 ≤ s.measure.tripCount ∧ s.measure.tripCount ≤ 255
  operateTimes : 26 ≤ s.relays.closeTime ∧ s.relays.closeTime ≤ 65535 ∧ 26 ≤ s.relays.openTime ∧
    s.relays.openTime ≤ 65535
  peakCodes : ∀ x, getPhase s.synth.peak x ≤ 524287
  ceiling : s.synth.ceiling ≤ 524287

/-! ### Lanes, relays and load against the engine state -/

/-- The engine states in which a lane state can be held (R45). -/
def LaneState.heldIn : LaneState → EngineState → Bool
  | .idle, _ => true
  | .halted, _ => true
  | .fetching, e => e.cueOpen
  | .waiting, e => e.cueOpen
  | .active, e => e == .running
  | .gap, e => e == .running

/-- The slots of a lane are those of its state (R45). -/
def Lane.slotsFit (l : Lane) : Bool :=
  match l.state with
  | .idle => l.current.isNone && l.next == .empty
  | .fetching => l.current.isNone && l.next == .empty
  | .halted => l.current.isNone && l.next == .empty
  | .waiting => l.current.isSome
  | .active => l.current.isSome
  | .gap => l.current.isSome

/-- A lane may hold a fetch: it is FETCHING, or its next slot is. -/
def Lane.mayFetch (l : Lane) : Bool :=
  match l.state with
  | .fetching => true
  | .waiting => l.next == .fetching
  | .active => l.next == .fetching
  | .gap => l.next == .fetching
  | .idle => false
  | .halted => false

/-- The transaction in flight is a fetch that the lane still wants. -/
def Port.wantedBy (p : Port) (k : LaneId) : Bool :=
  match p.slot with
  | some t =>
    match t.kind with
    | .laneFetch j _ w => !t.orphan && j == k && w
    | _ => false
  | none => false

/-- A transaction of the run-settings load is in flight and not disowned. -/
def Port.loadInFlight (p : Port) : Bool :=
  match p.slot with
  | some t =>
    match t.kind with
    | .loadHeader => !t.orphan
    | .loadReadCount _ => !t.orphan
    | .loadWriteCount _ _ => !t.orphan
    | _ => false
  | none => false

/-- A progress due is one that the engine state can call for (R149). -/
def Control.progressFits (c : Control) : Bool :=
  match c.progress with
  | .none => true
  | .softstart => c.engine == .closing
  | .running => c.engine == .softstart
  | .standby => c.engine == .releasing || (c.engine == .tripped && c.deferredClear)

/-- The lanes, claims, relays, progress and load agree with the engine state (R4, R45, R81, R149): each lane state is
held in its engine states alone, with its slots; a fetch is held by a lane that is filling a slot, one at a time; the
claim sets are those of the ACTIVE lanes; a relay is CLOSED or CLOSING in a live state alone, and never on an absent
phase; and the load is under way in LOADING alone. -/
structure State.EngineAgrees (s : State) : Prop where
  states : ∀ k, (getLane s.lanes k).state.heldIn s.control.engine = true
  slots : ∀ k, (getLane s.lanes k).slotsFit = true
  requests : ∀ k, (getLane s.lanes k).request.isSome = true → (getLane s.lanes k).mayFetch = true
  wanted : ∀ k, s.port.wantedBy k = true → (getLane s.lanes k).mayFetch = true ∧ (getLane s.lanes k).request = none
  claims : s.composer.claims = claimsOf s.lanes
  progress : s.control.progressFits = true
  opened : s.control.progress = .standby → allPresent s.control.mode s.relays .opened = true
  deferred : s.control.deferredClear = true → s.control.engine = .tripped
  relays : ∀ x, (getPhase s.relays.relay x).driveOutput = true → s.control.engine.live = true
  absent : ∀ x, present s.control.mode x = false → (getPhase s.relays.relay x).state = .opened
  load : s.port.loadRequest = true ∨ s.port.loadInFlight = true → s.control.engine = .loading
  once : s.port.loadRequest = true → s.port.loadInFlight = false

end Sys2Proof.Machine
end

