-- ==== Sys2Proof/WellFormed.lean ====
section
/-! DEFINITION. Which commands some event of the part spells. The operand types rule out every other value, so the
one check is on IGNORED_REGISTER_WRITE. -/

namespace Sys2Proof

/-- A write of the register window that R170 ignores: of less than a full word anywhere in the 32 bytes of the window, or
a full word to IDENT, to STAT or to the reserved offsets 0x1C to 0x1F. -/
def ignoredWrite (offset size : Nat) : Bool :=
  decide (1 ≤ size) && decide (size ≤ 4) && decide (offset < 32) &&
    (decide (size < 4) || offset == 0x00 || offset == 0x08 || decide (0x1C ≤ offset))

/-- Whether a command is one that an event of the part spells. -/
def Instr.wellFormed : Instr → Bool
  | .ignoredRegisterWrite offset size _ => ignoredWrite offset size
  | .powerOnReset _ _ => true
  | .start => true
  | .release => true
  | .nudge => true
  | .clear => true
  | .softReset => true
  | .flagsWrite _ => true
  | .maskWrite _ => true
  | .planbaseWrite _ => true
  | .laneStop _ => true
  | .laneResume _ => true
  | .sampleEvent _ => true
  | .stopCarriedOut _ _ => true
  | .releaseActedOn _ => true
  | .cycleStart _ => true
  | .restart _ => true
  | .applicationEnd _ _ => true
  | .gapEnd _ _ => true
  | .flickerChange _ _ => true
  | .softstartComplete _ => true
  | .releaseRampComplete _ => true
  | .relayOperationComplete _ _ => true
  | .enterSoftstart _ => true
  | .enterRunning _ => true
  | .released _ => true
  | .deferredClear _ => true
  | .trip _ => true
  | .measLost _ => true
  | .cycleSummary _ => true
  | .recovered _ _ => true
  | .notRecovered _ _ => true
  | .markerPulseDue _ => true
  | .markerCountdownEnd _ => true
  | .measurementFrame _ => true
  | .arbiterGrant => true
  | .loadComplete => true
  | .scanComplete _ => true
  | .cueFetchComplete _ => true
  | .episodeFetchComplete _ => true
  | .shapeCountReadComplete _ => true
  | .shapeComponentReadComplete _ => true
  | .takenCountWriteBackComplete => true
  | .journalRecordWriteComplete => true
  | .writtenCountWriteComplete => true
  | .busErrorResponse => true
  | .busWaitExpiry _ => true
  | .rstHeldLow => true
  | .runSettingsReadComplete _ => true

end Sys2Proof
end

