-- ==== Sys2Proof/Certificates/Slice0/Obligations.lean ====
section
/-! DEFINITION. The statements for the provers, in the order of OBLIGATIONS.json: what each command does, what it leaves
alone, the arithmetic of the part, and the invariants that every step keeps. -/

open Sys2Proof Sys2Proof.Machine

/-! ### The queue, and what holds of every command -/

/-- A step takes the command at the front of the queue and runs it on the state with the queue's rest. -/
def Obligations.StepRunsTheFrontCommand : Prop :=
  ∀ (c : Instr) (rest : List Instr) (s : State),
    step { s with pending := c :: rest } = exec c { s with pending := rest }

/-- No command touches the queue of waiting commands: the queue is the model's own (log entry 5). -/
def Obligations.CommandsLeaveTheQueue : Prop :=
  ∀ (c : Instr) (s t : State), exec c s = .next t → t.pending = s.pending

/-- Every command that an event of the part spells completes from every state. A full-word write that R170 does not
ignore is no IGNORED_REGISTER_WRITE, and is refused by name: that refusal is the model's choice (log entry 6). -/
def Obligations.WellFormedCommandsComplete : Prop :=
  (∀ (c : Instr) (s : State), c.wellFormed = true → ∃ t, exec c s = .next t) ∧
    ∀ (offset : Nat) (value : Word) (s : State), offset ≠ 0x00 → offset ≠ 0x08 →
      ¬(0x1C ≤ offset ∧ offset < 0x20) →
      exec (.ignoredRegisterWrite offset 4 value) s = .refused .notAnIgnoredWrite

/-- The taken counts are set by the two resets and moved by CUE_FETCH_COMPLETE alone (R10, R18, R19, R20). -/
def Obligations.TakenCountsMoveAtCueFetches : Prop :=
  ∀ (c : Instr) (s t : State), exec c s = .next t → t.port.taken ≠ s.port.taken →
    (∃ m1 m0, c = .powerOnReset m1 m0) ∨ c = .softReset ∨ ∃ word, c = .cueFetchComplete word

/-! ### Resets and run commands -/

/-- Power-on reset leaves every block at the value the manual gives it, with the mode pins latched (R18, R71, R85, R87,
R103, R120, R124, R126, R135, R137, R139 to R142, R148, R168, R170, R176). -/
def Obligations.PowerOnResetValues : Prop :=
  ∀ (mode1 mode0 : Bool) (s : State), ∃ t, exec (.powerOnReset mode1 mode0) s = .next t ∧
    t.pending = s.pending ∧ t.rstLow = false ∧
    t.control.mode.toNat = 2 * mode1.toNat + mode0.toNat ∧
    t.control.engine = .standby ∧ t.control.progress = .none ∧ t.control.pendingRelease = false ∧
    t.control.deferredClear = false ∧ t.control.previousFault = false ∧
    t.port.slot = none ∧ t.port.planBase = 0 ∧ t.port.episodeOffset = 0 ∧ t.port.shapeOffset = 0 ∧
    t.port.cueOffset = 0 ∧ t.port.journalOffset = 0 ∧ t.port.episodeCount = 0 ∧ t.port.shapeCount = 0 ∧
    t.port.readCount = 0 ∧ t.port.written = 0 ∧ t.port.writtenOwed = false ∧ t.port.writtenRequest = false ∧
    t.port.loadRequest = false ∧ t.port.scanRequest = false ∧ t.port.jbad = false ∧
    (∀ k, getLane t.port.posted k = 0 ∧ getLane t.port.taken k = 0 ∧ getLane t.port.takenOwed k = false ∧
      getLane t.port.takenRequest k = false ∧ (getLane t.watches k).armed = false) ∧
    (∀ k, let l := getLane t.lanes k
      l.state = .idle ∧ l.stage = none ∧ l.current = none ∧ l.next = .empty ∧ l.request = none ∧
      l.application = 0 ∧ l.advance = 0 ∧ l.late = false ∧ l.evaluationMark = false ∧ l.pendingStop = false ∧
      l.factor = 0 ∧ l.countdown = 0 ∧ l.rmsMin = 0 ∧ l.rmsMax = 0 ∧ l.clips = 0 ∧ l.iref = 0 ∧
      ∀ x, getPhase l.start x = 0 ∧ getPhase l.envelope x = 0 ∧ getPhase l.exitOrigin x = 0) ∧
    t.previousTrig = none ∧
    getPhase t.timebase.offsets .A = 0 ∧
    (mode1 = false → mode0 = true → getPhase t.timebase.offsets .B = 0x80000000) ∧
    (mode1 = true → mode0 = false →
      getPhase t.timebase.offsets .B = 2863311531 ∧ getPhase t.timebase.offsets .C = 1431655765) ∧
    (mode1 = true → mode0 = true → getPhase t.timebase.offsets .B = 0 ∧ getPhase t.timebase.offsets .C = 0) ∧
    t.timebase.theta = 0 ∧ t.timebase.previous = 0 ∧ t.timebase.frequency = 50000 ∧ t.timebase.increment = 8388608 ∧
    t.timebase.nominal = 50000 ∧ t.timebase.returnSlew = 0 ∧ t.timebase.cycle = 0 ∧ t.timebase.sample = 0 ∧
    t.timebase.restartDue = .afterReset ∧
    (∀ x, getPhase t.composer.steady x = 0 ∧ getPhase t.composer.lastComposed x = 0 ∧
      getPhase t.composer.releaseOrigin x = 0 ∧ getPhase t.composer.closeCommand x = false ∧
      getPhase t.synth.peak x = 0 ∧ getPhase t.synth.cycleClips x = 0 ∧
      getPhase t.relays.relay x = { state := .opened, remaining := 0, openSpan := 0 } ∧
      getPhase t.link.buffer0 x = 0 ∧ getPhase t.link.buffer1 x = 0 ∧
      getPhase t.measure.lastGood.v x = 0 ∧ getPhase t.measure.lastGood.i x = 0 ∧
      getPhase t.measure.sumV x = 0 ∧ getPhase t.measure.sumI x = 0 ∧ getPhase t.measure.peakI x = 0 ∧
      getPhase t.measure.runCount x = 0 ∧ getPhase t.measure.runPeak x = 0) ∧
    t.composer.claims = Claims.none ∧ t.composer.softLength = 0 ∧ t.composer.releaseLength = 0 ∧
    t.composer.softAdvance = 0 ∧ t.composer.releaseAdvance = 0 ∧ t.composer.rampRunning = false ∧
    t.composer.rampComplete = false ∧
    t.synth.ceiling = 0 ∧ t.relays.closeTime = 26 ∧ t.relays.openTime = 26 ∧
    t.link.marker = false ∧ t.link.markerCount = 0 ∧ t.link.markerRequest1 = false ∧ t.link.markerRequest2 = false ∧
    t.link.shifting = none ∧ t.link.strobe = false ∧
    t.measure.holder = none ∧ t.measure.liveStale = 0 ∧ t.measure.count = 0 ∧ t.measure.cycleStale = 0 ∧
    t.measure.figures = Figures.zero ∧ t.measure.tripCode = 0 ∧ t.measure.tripCount = 1 ∧
    t.measure.summaryPeriod = 0 ∧ t.measure.currentFloor = 0 ∧ t.measure.summaryCounter = 0 ∧
    t.journal.queue = [] ∧ t.journal.drops = 0 ∧
    t.window = { flags := 0, mask := 0, alert := false, notice := false }

/-- A soft reset leaves every block at its power-on value but for the mode latch, which is kept, and a transaction in
flight, which runs on disowned; the link stops its shift without a strobe (R19, R71, R85, R87, R103, R122, R125, R126,
R135, R142, R148, R161, R168, R170). What the amplifier was last strobed and the sampled levels stay as they are: the
levels are the model's choice (log entry 10). So are the items of an IDLE watch slot, the lane's mark of an evaluated
trigger and the latched header fields before a load (log entry 4); that the counters are 0 at once is an inference (log
entry 17). -/
def Obligations.SoftResetValues : Prop :=
  ∀ s : State, s.rstLow = false → ∃ t, exec .softReset s = .next t ∧
    t.pending = s.pending ∧ t.rstLow = false ∧
    t.control = { engine := .standby, progress := .none, pendingRelease := false, deferredClear := false,
                  previousFault := false, mode := s.control.mode } ∧
    t.port = { Port.reset with slot := s.port.slot.map fun tr => { tr with orphan := true } } ∧
    (∀ k, getLane t.lanes k = Lane.reset ∧ getLane t.watches k = Watch.idle) ∧
    t.previousTrig = none ∧ t.composer = Composer.reset ∧ t.timebase = Timebase.reset s.control.mode ∧
    t.synth = Synth.reset ∧ t.relays = Relays.reset ∧ t.measure = Measure.reset ∧ t.journal = Journal.reset ∧
    t.window = Window.reset ∧
    t.link.shifting = none ∧ t.link.strobe = false ∧ t.link.marker = false ∧ t.link.markerCount = 0 ∧
    t.link.markerRequest1 = false ∧ t.link.markerRequest2 = false ∧ t.link.strobed = s.link.strobed ∧
    t.link.ready = s.link.ready ∧ t.link.fault = s.link.fault ∧
    ∀ x, getPhase t.link.buffer0 x = 0 ∧ getPhase t.link.buffer1 x = 0

/-- While RST is held low the relay drive outputs are deasserted, the marker, ALERT and NOTICE are low, the link shifts
nothing and gives no strobe, the bus master has no transaction and the window answers no read (R176), and no command but
RST's own changes the state, since nothing reaches the part (R88, R176). What the state keeps besides is the model's
choice (log entry 7). -/
def Obligations.RstHeldLowSilencesThePart : Prop :=
  (∀ s : State, ∃ t, exec .rstHeldLow s = .next t ∧ t.rstLow = true ∧
     (∀ x, getPhase t.relayOutputs x = false) ∧ t.link.marker = false ∧ t.window.alert = false ∧
     t.window.notice = false ∧ t.link.shifting = none ∧ t.link.strobe = false ∧ t.port.slot = none ∧
     (∀ offset, t.readRegister offset = none) ∧
     t.pending = s.pending ∧ t.control = s.control ∧ t.lanes = s.lanes ∧ t.composer = s.composer ∧
     t.timebase = s.timebase ∧ t.synth = s.synth ∧ t.measure = s.measure ∧ t.watches = s.watches ∧
     t.journal = s.journal) ∧
  ∀ (c : Instr) (s : State), s.rstLow = true → c.wellFormed = true →
    (∀ m1 m0, c ≠ .powerOnReset m1 m0) → c ≠ .rstHeldLow → exec c s = .next s

/-- START in STANDBY enters LOADING, sets every lane and watch slot afresh, empties the claim sets, clears the release
marks and any pending RELEASE, requests the load and posts ENGINE / LOADING / START; in any other state it is ignored
(R71, R79, R86, R142, R150). That it disowns a lane's fetch in flight, whose data is then discarded (R17), and leaves
the EXT detectors' previous level are inferences from R17, R53 and R71 (log entry 23). What the items of an IDLE watch
slot and the lane's mark of an evaluated trigger then are is the model's choice (log entry 4). -/
def Obligations.StartEntersLoading : Prop :=
  (∀ s : State, s.rstLow = false → s.control.engine = .standby →
    exec .start s = .next { s with
      control := { s.control with engine := .loading, pendingRelease := false }
      lanes := perLane Lane.reset
      watches := perLane Watch.idle
      composer := { s.composer with
        claims := Claims.none, releaseOrigin := perPhase 0, releaseAdvance := 0, rampRunning := false
        rampComplete := false }
      port := { s.port with
        loadRequest := true
        slot := s.port.slot.map fun tr => { tr with kind := tr.kind.unwanted fun _ => true } }
      journal := s.journal.post (s.record none 0xFFFF (.engine .start .loading .none none 0)) }) ∧
    ∀ s : State, s.rstLow = false → s.control.engine ≠ .standby → exec .start s = .next s

/-- A RELEASE is pending until the next sample event, except in LOADING, where it is ignored (R150, R154). A NUDGE
requests a scan, which merges with one that waits or is in flight; in LOADING it is ignored (R5). A scan that a soft
reset has disowned takes no request with it: an inference from R19 (log entry 8). -/
def Obligations.ReleaseAndNudgeAreRequests : Prop :=
  (∀ s : State, s.rstLow = false →
     (s.control.engine ≠ .loading →
       exec .release s = .next { s with control := { s.control with pendingRelease := true } }) ∧
     (s.control.engine = .loading → exec .release s = .next s)) ∧
  ∀ s : State, s.rstLow = false →
    (s.control.engine ≠ .loading → (∀ tr, s.port.slot = some tr → tr.kind = .scan → tr.orphan = true) →
      exec .nudge s = .next { s with port := { s.port with scanRequest := true } }) ∧
    (∀ tr, s.port.slot = some tr → tr.kind = .scan → tr.orphan = false → exec .nudge s = .next s) ∧
    (s.control.engine = .loading → exec .nudge s = .next s)

/-- CLEAR by the engine state, the relay states and the FAULT level (R159): STANDBY at once, deferred, or ignored. -/
def Obligations.ClearLeavesTripOrFault : Prop :=
  ∀ s : State, s.rstLow = false →
    ((s.control.engine = .tripped ∧ s.control.deferredClear = false ∧
        (∀ x, present s.control.mode x = true → (getPhase s.relays.relay x).state = .opened)) ∨
      (s.control.engine = .faulted ∧ s.link.fault = false) →
      exec .clear s = .next { s with
        control := { s.control with engine := .standby }
        journal := s.journal.post (s.record none 0xFFFF (.engine .clear .standby .none none 0))
        window := s.window.setFlag .run }) ∧
    (s.control.engine = .tripped → s.control.deferredClear = false →
      (∃ x, present s.control.mode x = true ∧ (getPhase s.relays.relay x).state ≠ .opened) →
      exec .clear s = .next { s with control := { s.control with deferredClear := true } }) ∧
    (s.control.engine = .tripped ∧ s.control.deferredClear = true ∨
        s.control.engine = .faulted ∧ s.link.fault = true ∨
        s.control.engine ≠ .tripped ∧ s.control.engine ≠ .faulted →
      exec .clear s = .next s)

/-- One write to CTRL: with SRST the soft reset alone; else NUDGE, CLEAR, START and RELEASE in that order. CLEAR and
START together in TRIPPED end the trip and begin a new run when every present relay is OPEN, and else defer the CLEAR
and ignore the START; START and RELEASE together in STANDBY leave no RELEASE pending (R160). -/
def Obligations.CtrlWriteTakesActionsInOrder : Prop :=
  (∀ (value : Word) (s : State), value.getLsbD 4 = true →
    runAll (commandsOfWrite 0x04 4 value) s = runAll [.softReset] s) ∧
  (∀ (value : Word) (s : State), value.getLsbD 4 = false →
    runAll (commandsOfWrite 0x04 4 value) s =
      ((((runAll (if value.getLsbD 2 then [.nudge] else []) s).bind
        (runAll (if value.getLsbD 3 then [.clear] else []))).bind
        (runAll (if value.getLsbD 0 then [.start] else []))).bind
        (runAll (if value.getLsbD 1 then [.release] else [])))) ∧
  (∀ s : State, s.rstLow = false → s.control.engine = .tripped → s.control.deferredClear = false →
    ∃ t, runAll (commandsOfWrite 0x04 4 0x09) s = some t ∧
      (allPresent s.control.mode s.relays .opened = true →
        t.control.engine = .loading ∧ t.control.deferredClear = false ∧ t.port.loadRequest = true) ∧
      (allPresent s.control.mode s.relays .opened = false →
        t.control.engine = .tripped ∧ t.control.deferredClear = true ∧
          t.port.loadRequest = s.port.loadRequest)) ∧
  (∀ s : State, s.rstLow = false → s.control.engine = .standby →
    ∃ t, runAll (commandsOfWrite 0x04 4 0x03) s = some t ∧ t.control.engine = .loading ∧
      t.control.pendingRelease = false)

/-! ### The register window -/

/-- A write to FLAGS clears each flag whose bit is written 0 and sets none (R173). A write to MASK takes bits 5 to 0 and
13 to 8 and ignores the others. After either, each line stands as a set flag that is enabled for it says (R174). -/
def Obligations.FlagsAndMaskWritesSteerTheLines : Prop :=
  (∀ (value : Word) (s : State), s.rstLow = false → s.window.flags.toNat < 64 →
     ∃ t, exec (.flagsWrite value) s = .next t ∧ t = { s with window := t.window } ∧ t.window.mask = s.window.mask ∧
       (∀ n : Nat, t.window.flags.getLsbD n = (s.window.flags.getLsbD n && value.getLsbD n)) ∧
       (t.window.alert = true ↔ ∃ n : Nat, n < 6 ∧ t.window.flags.getLsbD n = true ∧
         s.window.mask.getLsbD n = true ∧ s.window.mask.getLsbD (8 + n) = false) ∧
       (t.window.notice = true ↔ ∃ n : Nat, n < 6 ∧ t.window.flags.getLsbD n = true ∧
         s.window.mask.getLsbD n = true ∧ s.window.mask.getLsbD (8 + n) = true)) ∧
  ∀ (value : Word) (s : State), s.rstLow = false →
    ∃ t, exec (.maskWrite value) s = .next t ∧ t = { s with window := t.window } ∧
      t.window.flags = s.window.flags ∧
      (∀ n : Nat, t.window.mask.getLsbD n =
        (value.getLsbD n && (decide (n < 6) || (decide (8 ≤ n) && decide (n < 14))))) ∧
      (t.window.alert = true ↔ ∃ n : Nat, n < 6 ∧ s.window.flags.getLsbD n = true ∧ value.getLsbD n = true ∧
        value.getLsbD (8 + n) = false) ∧
      (t.window.notice = true ↔ ∃ n : Nat, n < 6 ∧ s.window.flags.getLsbD n = true ∧ value.getLsbD n = true ∧
        value.getLsbD (8 + n) = true)

/-- A write to PLANBASE in STANDBY replaces the base, its low 12 bits taken as 0; in any other state it is ignored (R1,
R175). A write to IDENT, STAT or the reserved offsets 0x1C to 0x1F, and any write of less than a full word, changes
nothing (R170). -/
def Obligations.PlanbaseAndIgnoredWrites : Prop :=
  (∀ (value : Word) (s : State), s.rstLow = false →
     (s.control.engine = .standby →
       ∃ base : Word, base.toNat = value.toNat / 4096 * 4096 ∧
         exec (.planbaseWrite value) s = .next { s with port := { s.port with planBase := base } }) ∧
     (s.control.engine ≠ .standby → exec (.planbaseWrite value) s = .next s)) ∧
  ∀ (offset size : Nat) (value : Word) (s : State),
    size < 4 ∨ offset = 0x00 ∨ offset = 0x08 ∨ (0x1C ≤ offset ∧ offset < 0x20) →
    exec (.ignoredRegisterWrite offset size value) s = .next s

/-- A stop given for a lane that is not HALTED is pending, withdraws the lane's waiting request, and has the data of its
fetch in flight discarded; for a HALTED lane it is ignored (R17, R66). -/
def Obligations.LaneStopBecomesPending : Prop :=
  ∀ (k : LaneId) (s : State), s.rstLow = false →
    ((getLane s.lanes k).state ≠ .halted →
      exec (.laneStop k) s = .next { s with
        lanes := setLane s.lanes k { getLane s.lanes k with pendingStop := true, request := none }
        port := { s.port with
          slot := s.port.slot.map fun tr =>
            { tr with kind := match tr.kind with
              | .laneFetch j f wanted => .laneFetch j f (wanted && decide (j ≠ k))
              | kind => kind } } }) ∧
    ((getLane s.lanes k).state = .halted → exec (.laneStop k) s = .next s)

/-- A resume makes a HALTED lane with no stop pending IDLE, and the lane applies the cue test in CLOSING, SOFTSTART and
RUNNING; any other resume is ignored (R7, R46, R67). -/
def Obligations.LaneResumeFreesAHaltedLane : Prop :=
  ∀ (k : LaneId) (s : State), s.rstLow = false →
    ((getLane s.lanes k).state ≠ .halted ∨ (getLane s.lanes k).pendingStop = true →
      exec (.laneResume k) s = .next s) ∧
    ((getLane s.lanes k).state = .halted → (getLane s.lanes k).pendingStop = false →
      ∃ t, exec (.laneResume k) s = .next t ∧
        t = { s with lanes := t.lanes, journal := t.journal, window := t.window } ∧
        (∀ j, j ≠ k → getLane t.lanes j = getLane s.lanes j) ∧
        (s.control.engine.cueOpen = false ∨ getLane s.port.posted k = getLane s.port.taken k →
          (getLane t.lanes k).state = .idle ∧ t.journal = s.journal ∧ t.window = s.window) ∧
        (s.control.engine.cueOpen = true → 1 ≤ (getLane s.port.posted k - getLane s.port.taken k).toNat →
          (getLane s.port.posted k - getLane s.port.taken k).toNat ≤ 16 →
          (getLane t.lanes k).state = .fetching ∧ (getLane t.lanes k).request = some .cue ∧
            t.journal = s.journal ∧ t.window = s.window) ∧
        (s.control.engine.cueOpen = true → 17 ≤ (getLane s.port.posted k - getLane s.port.taken k).toNat →
          (getLane t.lanes k).state = .halted ∧ t.window = s.window.setFlag .plan ∧
            t.journal = (s.journal.post (s.record (some k) 0xFFFF
              (.planRefused .cueCount (BitVec.ofNat 16 ((getLane s.port.taken k).toNat % 16))))).post
              (s.record (some k) 0xFFFF (.laneHalted .cueCount))))

/-- What each register reads while RST is high. STAT shows the engine state, the relay states of the present phases,
READY, FAULT, JBAD and the HALTED lanes, each at its bits, and 0 elsewhere (R170, R172). IDENT holds the vendor code,
the revision and the latched mode; CTRL reads 0; FLAGS its six flags (R173); MASK and PLANBASE what was last taken,
their other bits 0 (R174, R175); LANECTL the pending stops (R175); and the reserved offsets 0 (R170). -/
def Obligations.RegistersReadTheState : Prop :=
  ∀ s : State, s.rstLow = false →
    (∃ w : Word, s.readRegister 0x08 = some w ∧
      w.toNat % 8 = s.control.engine.code ∧ w.getLsbD 3 = false ∧
      (∀ x n, (x, n) ∈ [(Phase.A, 4), (Phase.B, 6), (Phase.C, 8)] →
        w.toNat / 2 ^ n % 4 = if present s.control.mode x then relayCode (getPhase s.relays.relay x).state else 0) ∧
      w.getLsbD 10 = s.link.ready ∧ w.getLsbD 11 = s.link.fault ∧ w.getLsbD 12 = s.port.jbad ∧
      (∀ k, w.getLsbD (16 + laneNumber k) = decide ((getLane s.lanes k).state = .halted)) ∧
      (∀ n : Nat, 13 ≤ n → n < 16 → w.getLsbD n = false) ∧ ∀ n : Nat, 22 ≤ n → w.getLsbD n = false) ∧
    (∃ w : Word, s.readRegister 0x00 = some w ∧ w.toNat / 65536 = 0x00D6 ∧ w.toNat / 256 % 256 = 1 ∧
      w.toNat % 256 = s.control.mode.toNat) ∧
    s.readRegister 0x04 = some 0 ∧
    (∃ w : Word, s.readRegister 0x0C = some w ∧
      ∀ n : Nat, w.getLsbD n = (decide (n < 6) && s.window.flags.getLsbD n)) ∧
    s.readRegister 0x10 = some s.window.mask ∧ s.readRegister 0x14 = some s.port.planBase ∧
    (s.BooksInOrder →
      (∀ n : Nat, s.window.mask.getLsbD n = true → n < 6 ∨ 8 ≤ n ∧ n < 14) ∧
      ∀ n : Nat, n < 12 → s.port.planBase.getLsbD n = false) ∧
    (∃ w : Word, s.readRegister 0x18 = some w ∧
      (∀ k, w.getLsbD (laneNumber k) = (getLane s.lanes k).pendingStop) ∧ ∀ n : Nat, 6 ≤ n → w.getLsbD n = false) ∧
    ∀ offset : Nat, 0x1C ≤ offset → offset < 0x20 → s.readRegister offset = some 0

/-! ### The Plan Port -/

/-- With the slot IDLE the arbiter serves the waiting request that ranks first: the load, the journal write, the lowest
lane's fetch, the taken counts in lane order, the written count, the scan; the grant forms the address, the length and
the data of the transaction, and starts its wait timer at 0. A head record that finds a fill of 256 or more is dropped
without a transaction, and a cue fetch is tested again. With the slot IN FLIGHT nothing is granted (R1, R3, R4, R8, R10
to R13, R15, R16, R166). That one command is one turn, a turn without a transaction included, is the model's choice (log
entry 9). -/
def Obligations.ArbiterGrantsInRankOrder : Prop :=
  ∀ s : State, s.rstLow = false →
    (∀ tr, s.port.slot = some tr → exec .arbiterGrant s = .next s) ∧
    (s.port.slot = none → s.port.loadRequest = true →
      exec .arbiterGrant s = .next { s with port := { s.port with
        loadRequest := false
        slot := some { kind := .loadHeader, base := s.port.planBase, address := s.port.planBase, writes := false
                       length := 17, data := [], timer := 0, orphan := false } } }) ∧
    (∀ head rest, s.port.slot = none → s.port.loadRequest = false → s.journal.queue = head :: rest →
      ((s.port.written - s.port.readCount).toNat < 256 →
        exec .arbiterGrant s = .next { s with
          journal := { s.journal with
            queue := { head with gap := BitVec.ofNat 8 (min s.journal.drops 255) } :: rest }
          port := { s.port with
            slot := some { kind := .journalRecord s.journal.drops, base := s.port.planBase
                           address := s.port.planBase + s.port.journalOffset +
                             BitVec.ofNat 32 (32 * (s.port.written.toNat % 256))
                           writes := true, length := 8
                           data := Record.words { head with gap := BitVec.ofNat 8 (min s.journal.drops 255) }
                           timer := 0, orphan := false } } }) ∧
      (256 ≤ (s.port.written - s.port.readCount).toNat →
        exec .arbiterGrant s =
          .next { s with journal := { queue := rest, drops := min (s.journal.drops + 1) 4294967295 } })) ∧
    (∀ k f, s.port.slot = none → s.port.loadRequest = false → s.journal.queue = [] →
      (getLane s.lanes k).request = some f →
      (∀ j, laneNumber j < laneNumber k → (getLane s.lanes j).request = none) →
      ∃ t, exec .arbiterGrant s = .next t ∧
        (∀ j, j ≠ k → getLane t.lanes j = getLane s.lanes j) ∧ (getLane t.lanes k).request = none ∧
        (f = .cue → getLane s.port.posted k = getLane s.port.taken k →
          t.port = s.port ∧ t.journal = s.journal ∧
            ((getLane s.lanes k).state = .fetching → (getLane t.lanes k).state = .idle) ∧
            ((getLane s.lanes k).state ≠ .fetching →
              (getLane t.lanes k).state = (getLane s.lanes k).state ∧ (getLane t.lanes k).next = .empty)) ∧
        (f = .cue → 17 ≤ (getLane s.port.posted k - getLane s.port.taken k).toNat →
          t.port = s.port ∧ t.window = s.window.setFlag .plan ∧
            ((getLane s.lanes k).state = .fetching → (getLane t.lanes k).state = .halted) ∧
            ((getLane s.lanes k).state ≠ .fetching → (getLane s.lanes k).state ≠ .idle →
              (getLane t.lanes k).next = .refused .cueCount 0xFFFF)) ∧
        (f = .cue → 1 ≤ (getLane s.port.posted k - getLane s.port.taken k).toNat →
          (getLane s.port.posted k - getLane s.port.taken k).toNat ≤ 16 →
          t = { s with
            lanes := t.lanes
            port := { s.port with
              slot := some { kind := .laneFetch k f true, base := s.port.planBase
                             address := s.port.planBase + s.port.cueOffset +
                               BitVec.ofNat 32 (64 * laneNumber k + 4 * ((getLane s.port.taken k).toNat % 16))
                             writes := false, length := 1, data := [], timer := 0, orphan := false } } }) ∧
        (∀ n, f = .episode n → t = { s with
            lanes := t.lanes
            port := { s.port with
              slot := some { kind := .laneFetch k f true, base := s.port.planBase
                             address := s.port.planBase + s.port.episodeOffset + BitVec.ofNat 32 (36 * n)
                             writes := false, length := 9, data := [], timer := 0, orphan := false } } }) ∧
        (∀ ep, f = .shapeCount ep → t = { s with
            lanes := t.lanes
            port := { s.port with
              slot := some { kind := .laneFetch k f true, base := s.port.planBase
                             address := s.port.planBase + s.port.shapeOffset + BitVec.ofNat 32 (80 * ep.setIndex)
                             writes := false, length := 1, data := [], timer := 0, orphan := false } } }) ∧
        (∀ ep c, f = .shapeComponents ep c → t = { s with
            lanes := t.lanes
            port := { s.port with
              slot := some { kind := .laneFetch k f true, base := s.port.planBase
                             address := s.port.planBase + s.port.shapeOffset +
                               BitVec.ofNat 32 (80 * ep.setIndex) + 4
                             writes := false, length := (6 * c + 3) / 4, data := [], timer := 0
                             orphan := false } } })) ∧
    (∀ k, s.port.slot = none → s.port.loadRequest = false → s.journal.queue = [] →
      (∀ j, (getLane s.lanes j).request = none) → getLane s.port.takenRequest k = true →
      (∀ j, laneNumber j < laneNumber k → getLane s.port.takenRequest j = false) →
      exec .arbiterGrant s = .next { s with port := { s.port with
        takenRequest := setLane s.port.takenRequest k false
        slot := some { kind := .takenCount k (getLane s.port.taken k), base := s.port.planBase
                       address := s.port.planBase + BitVec.ofNat 32 (192 + 4 * laneNumber k), writes := true
                       length := 1, data := [getLane s.port.taken k], timer := 0, orphan := false } } }) ∧
    (s.port.slot = none → s.port.loadRequest = false → s.journal.queue = [] →
      (∀ j, (getLane s.lanes j).request = none) → (∀ j, getLane s.port.takenRequest j = false) →
      (s.port.writtenRequest = true →
        exec .arbiterGrant s = .next { s with port := { s.port with
          writtenRequest := false
          slot := some { kind := .writtenCount, base := s.port.planBase, address := s.port.planBase + 216
                         writes := true, length := 1, data := [s.port.written], timer := 0, orphan := false } } }) ∧
      (s.port.writtenRequest = false → s.port.scanRequest = true →
        exec .arbiterGrant s = .next { s with port := { s.port with
          scanRequest := false
          slot := some { kind := .scan, base := s.port.planBase, address := s.port.planBase + 96, writes := false
                         length := 7, data := [], timer := 0, orphan := false } } }) ∧
      (s.port.writtenRequest = false → s.port.scanRequest = false → exec .arbiterGrant s = .next s))

/-- The two reads of the load: when the header has come the journal read count is read, and when that has come it is
written to byte 216, each with a fresh wait timer at the base of the load's grant (R1, R4, R16). -/
def Obligations.LoadReadsIssueTheNextTransaction : Prop :=
  ∀ (s : State) (tr : Transaction), s.rstLow = false → s.port.slot = some tr → tr.orphan = false →
    (∀ words, tr.kind = .loadHeader →
      exec (.runSettingsReadComplete (.header words)) s = .next { s with port := { s.port with
        slot := some { kind := .loadReadCount words, base := tr.base, address := tr.base + 120, writes := false
                       length := 1, data := [], timer := 0, orphan := false } } }) ∧
    (∀ header word, tr.kind = .loadReadCount header →
      exec (.runSettingsReadComplete (.readCount word)) s = .next { s with port := { s.port with
        slot := some { kind := .loadWriteCount header word, base := tr.base, address := tr.base + 216, writes := true
                       length := 1, data := [word], timer := 0, orphan := false } } })

/-- The completed load: every block latches its settings with its own clamps, the written count is set from the read
count, a scan is requested, the Timebase is due a restart, and the engine enters CLOSING, or returns to STANDBY with
NOT_READY; the lanes, the taken counts, the drop count and the running values stay (R3, R4, R77, R93, R104, R127, R140,
R151). -/
def Obligations.LoadCompletionLatchesTheSettings : Prop :=
  ∀ (s : State) (tr : Transaction) (header : Vector Word 17) (readCount : Word),
    s.rstLow = false → s.port.slot = some tr → tr.orphan = false → tr.kind = .loadWriteCount header readCount →
    ∃ t, exec .loadComplete s = .next t ∧
      t.control = { s.control with engine := if s.link.ready then .closing else .standby } ∧
      (s.link.ready = true → t.window = s.window ∧
        t.journal = s.journal.post (s.record none 0xFFFF (.engine .loaded .closing .none none 0))) ∧
      (s.link.ready = false → t.window = s.window.setFlag .run ∧
        t.journal = s.journal.post (s.record none 0xFFFF (.engine .startRefused .standby .notReady none 0))) ∧
      t.port = { s.port with
        slot := none, readCount := readCount, written := readCount, jbad := false, writtenOwed := false
        writtenRequest := false, scanRequest := true
        episodeOffset := BitVec.ofNat 32 (u32 header.toList 0 / 4 * 4)
        episodeCount := min (u16 header.toList 4) 4096
        shapeCount := min (u16 header.toList 6) 256
        shapeOffset := BitVec.ofNat 32 (u32 header.toList 8 / 4 * 4)
        cueOffset := BitVec.ofNat 32 (u32 header.toList 12 / 4 * 4)
        journalOffset := BitVec.ofNat 32 (u32 header.toList 16 / 4 * 4) } ∧
      t.timebase = { s.timebase with
        latchedNominal := max 45000 (min 65000 (u32 header.toList 20))
        latchedSlew := u16 header.toList 58
        latchedOffsetB := u16 header.toList 64 % 3600
        latchedOffsetC := u16 header.toList 66 % 3600
        restartDue := .afterLoad } ∧
      (∀ x n, (x, n) ∈ [(Phase.A, 24), (Phase.B, 26), (Phase.C, 28)] →
        getPhase t.composer.steady x =
          if present s.control.mode x then min (u16 header.toList n) 20000 else 0) ∧
      t.composer = { s.composer with
        steady := t.composer.steady
        softLength := u16 header.toList 30
        releaseLength := u16 header.toList 52 } ∧
      (∀ x n, (x, n) ∈ [(Phase.A, 32), (Phase.B, 36), (Phase.C, 40)] →
        getPhase t.synth.peak x =
          if present s.control.mode x then min (u32 header.toList n) 524287 else 0) ∧
      t.synth = { s.synth with peak := t.synth.peak, ceiling := min (u32 header.toList 44) 524287 } ∧
      t.relays = { s.relays with
        closeTime := max 26 (u16 header.toList 54), openTime := max 26 (u16 header.toList 56) } ∧
      t.measure = { s.measure with
        tripCode := u16 header.toList 48, tripCount := max 1 (u8 header.toList 50)
        summaryPeriod := u16 header.toList 60, currentFloor := u16 header.toList 62 } ∧
      t.lanes = s.lanes ∧ t.link = s.link ∧ t.watches = s.watches ∧ t.previousTrig = s.previousTrig ∧
      t.rstLow = s.rstLow ∧ t.pending = s.pending

/-- The completed scan: the seven copies are replaced, the new fill sets or clears JBAD, every owed write-back is
requested, and every lane that needs an episode applies the cue test to the new count; a stop pending bars the request
alone, and not a refusal, which halts the lane (R6, R7, R14, R46, R47, R66). A lane refused posts PLAN_REFUSED /
CUE_COUNT, and from IDLE LANE_HALTED too, and nothing else is posted; with no lane refused the journal and the window
stay (R40, R70). The order in which the records of several lanes refused at one scan are posted is not claimed here (log
entry 30). -/
def Obligations.ScanCompletionReplacesTheCounts : Prop :=
  ∀ (s : State) (tr : Transaction) (words : Vector Word 7),
    s.rstLow = false → s.port.slot = some tr → tr.orphan = false → tr.kind = .scan →
    ∃ t, exec (.scanComplete words) s = .next t ∧
      t = { s with port := t.port, lanes := t.lanes, journal := t.journal, window := t.window } ∧
      (∀ k, getLane t.port.posted k = words.toList.getD (laneNumber k) 0) ∧
      t.port = { s.port with
        slot := none
        posted := t.port.posted
        readCount := words[6]
        jbad := decide (257 ≤ (s.port.written - words[6]).toNat)
        takenRequest := t.port.takenRequest
        writtenRequest := s.port.writtenRequest || s.port.writtenOwed } ∧
      (∀ k, getLane t.port.takenRequest k = (getLane s.port.takenRequest k || getLane s.port.takenOwed k)) ∧
      (let ahead (k : LaneId) : Nat := (getLane t.port.posted k - getLane s.port.taken k).toNat
       let needs (k : LaneId) : Prop := s.control.engine.cueOpen = true ∧ (getLane s.lanes k).needsEpisode = true
       let refusal (k : LaneId) : Record := s.record (some k) 0xFFFF
         (.planRefused .cueCount (BitVec.ofNat 16 ((getLane s.port.taken k).toNat % 16)))
       let halt (k : LaneId) : Record := s.record (some k) 0xFFFF (.laneHalted .cueCount)
       ((∀ k, needs k → ahead k ≤ 16) → t.journal = s.journal ∧ t.window = s.window) ∧
       ((∃ k, needs k ∧ 17 ≤ ahead k) → t.window = s.window.setFlag .plan) ∧
       (∀ r, r ∈ t.journal.queue → r ∈ s.journal.queue ∨
         ∃ k, needs k ∧ 17 ≤ ahead k ∧ (r = refusal k ∨ (getLane s.lanes k).state = .idle ∧ r = halt k)) ∧
       ∀ k,
        (¬needs k ∨ ahead k = 0 ∨ ((getLane s.lanes k).pendingStop = true ∧ ahead k ≤ 16) →
          getLane t.lanes k = getLane s.lanes k) ∧
        (needs k → (getLane s.lanes k).pendingStop = false → 1 ≤ ahead k → ahead k ≤ 16 →
          (getLane t.lanes k).request = some .cue ∧
            ((getLane s.lanes k).state = .idle → (getLane t.lanes k).state = .fetching) ∧
            ((getLane s.lanes k).state ≠ .idle →
              getLane t.lanes k = { getLane s.lanes k with next := .fetching, request := some .cue })) ∧
        (needs k → 17 ≤ ahead k →
          posted s t (refusal k) = true ∧
            ((getLane s.lanes k).state = .idle →
              (getLane t.lanes k).state = .halted ∧ (getLane t.lanes k).pendingStop = false ∧
                posted s t (halt k) = true) ∧
            ((getLane s.lanes k).state ≠ .idle →
              getLane t.lanes k =
                { getLane s.lanes k with next := .refused .cueCount 0xFFFF, request := none })))

/-- The completed cue fetch: the taken count advances and its write-back is owed whatever the index, and requested
unless one was already owed, a failed write-back waiting for the end of the next scan (R10); an index below the episode
count requests that record; any other is refused with INDEX_RANGE and that index; and a lane that no longer wants the
entry requests no record (R8, R9, R38). -/
def Obligations.CueFetchChecksTheIndex : Prop :=
  ∀ (s : State) (tr : Transaction) (k : LaneId) (wanted : Bool) (word : Word),
    s.rstLow = false → s.port.slot = some tr → tr.orphan = false → tr.kind = .laneFetch k .cue wanted →
    ∃ t, exec (.cueFetchComplete word) s = .next t ∧
      t = { s with port := t.port, lanes := t.lanes, journal := t.journal, window := t.window } ∧
      t.port = { s.port with
        slot := none
        taken := setLane s.port.taken k (getLane s.port.taken k + 1)
        takenOwed := setLane s.port.takenOwed k true
        takenRequest := setLane s.port.takenRequest k
          (getLane s.port.takenRequest k || !getLane s.port.takenOwed k) } ∧
      (∀ j, j ≠ k → getLane t.lanes j = getLane s.lanes j) ∧
      (wanted = true → word.toNat % 65536 < s.port.episodeCount →
        getLane t.lanes k = { getLane s.lanes k with request := some (.episode (word.toNat % 65536)) } ∧
          t.journal = s.journal ∧ t.window = s.window) ∧
      (wanted = true → s.port.episodeCount ≤ word.toNat % 65536 →
        t.window = s.window.setFlag .plan ∧
          ((getLane s.lanes k).state = .fetching →
            (getLane t.lanes k).state = .halted ∧ (getLane t.lanes k).request = none ∧
              t.journal = (s.journal.post (s.record (some k) 0xFFFF
                (.planRefused .indexRange (word.extractLsb' 0 16)))).post
                (s.record (some k) 0xFFFF (.laneHalted .indexRange))) ∧
          ((getLane s.lanes k).state ≠ .fetching → (getLane s.lanes k).state ≠ .idle →
            getLane t.lanes k =
                { getLane s.lanes k with next := .refused .indexRange 0xFFFF, request := none } ∧
              t.journal = s.journal.post (s.record (some k) 0xFFFF
                (.planRefused .indexRange (word.extractLsb' 0 16))))) ∧
      (wanted = false → ∀ n, (getLane t.lanes k).request = some (.episode n) →
        (getLane s.lanes k).request = some (.episode n))

/-- The completed episode fetch: a record that fails a test of R39 is refused, one that passes is loaded into the slot
that was being filled, or for SHAPE has its shape set's count requested; a lane that no longer wants it discards the
data (R17, R39, R40, R46, R47, R70). An episode that becomes current has its next slot filled by its NEXT, or by the cue
test (R7). -/
def Obligations.EpisodeFetchLoadsOrRefuses : Prop :=
  ∀ (s : State) (tr : Transaction) (k : LaneId) (n : Nat) (wanted : Bool) (words : Vector Word 9),
    s.rstLow = false → s.port.slot = some tr → tr.orphan = false → tr.kind = .laneFetch k (.episode n) wanted →
    n < 65536 →
    (wanted = false →
      exec (.episodeFetchComplete words) s = .next { s with port := { s.port with slot := none } }) ∧
    (wanted = true → ∃ t, exec (.episodeFetchComplete words) s = .next t ∧
      t = { s with port := { s.port with slot := none }, lanes := t.lanes, journal := t.journal
                   window := t.window } ∧
      (∀ j, j ≠ k → getLane t.lanes j = getLane s.lanes j) ∧
      (∀ cause offending, validateRecord s.control.mode s.port.episodeCount s.port.shapeCount n words.toList =
          .error (cause, offending) →
        t.window = s.window.setFlag .plan ∧
          ((getLane s.lanes k).state = .fetching →
            (getLane t.lanes k).state = .halted ∧
              t.journal = (s.journal.post (s.record (some k) (BitVec.ofNat 16 n)
                (.planRefused cause offending))).post
                (s.record (some k) (BitVec.ofNat 16 n) (.laneHalted cause))) ∧
          ((getLane s.lanes k).state ≠ .fetching → (getLane s.lanes k).state ≠ .idle →
            getLane t.lanes k =
                { getLane s.lanes k with next := .refused cause (BitVec.ofNat 16 n), request := none } ∧
              t.journal = s.journal.post (s.record (some k) (BitVec.ofNat 16 n) (.planRefused cause offending)))) ∧
      (∀ ep, validateRecord s.control.mode s.port.episodeCount s.port.shapeCount n words.toList = .ok ep →
        ((∀ j, ep.kind ≠ .shape j) → (getLane s.lanes k).state = .fetching →
          (getLane t.lanes k).state = .waiting ∧ (getLane t.lanes k).current = some ep ∧
            (getLane t.lanes k).application = 0 ∧ (getLane t.lanes k).evaluationMark = false ∧
            (getLane t.lanes k).late = (getLane s.lanes k).late ∧
            s.fillsNextIn t s.control.engine k ep) ∧
        ((∀ j, ep.kind ≠ .shape j) → (getLane s.lanes k).state ≠ .fetching →
          getLane t.lanes k = { getLane s.lanes k with next := .loaded ep, request := none } ∧
            t.journal = s.journal ∧ t.window = s.window) ∧
        (∀ j, ep.kind = .shape j →
          getLane t.lanes k = { getLane s.lanes k with request := some (.shapeCount ep) } ∧
            t.journal = s.journal ∧ t.window = s.window)))

/-- The tests on a record in their order, each giving its cause and its offending index; a record that passes all is
loaded with its index, its duration, its mask and reference phase, its trigger, the kind of its code with the values of
that kind brought into range, its repeats and repeat gap, its NEXT and its watch part, and with CLAMPED where a value
was brought into range (R22 to R31, R34 to R36, R39, R41). That the gap of a record with a repeat count of 1, which is
not read, is held as 0 is the model's choice (log entry 35). -/
def Obligations.RecordTestsStandInOrder : Prop :=
  ∀ (mode : BitVec 2) (episodes shapes n : Nat) (ws : List Word), n < 65536 →
    let code := u8 ws 0
    let known := 1 ≤ code ∧ code ≤ 8
    let masked := code = 5 ∨ code = 7 ∨ code = 8 ∨
      ∃ x, (byteAt ws 2).getLsbD (phaseBit x) = true ∧ present mode x = true
    let triggered := u8 ws 3 = 0 ∨ u8 ws 3 = 1 ∨ (u8 ws 3 = 2 ∧ u32 ws 4 < 3600) ∨ (u8 ws 3 = 3 ∧ u32 ws 4 ≤ 3) ∨
      (u8 ws 3 = 4 ∧ u32 ws 4 ≤ 5) ∨ u8 ws 3 = 5
    let chained := (byteAt ws 1).getLsbD 0 = true → u16 ws 28 < episodes
    let shaped := code = 3 → u32 ws 12 < shapes
    let value1 : Int := s32 ws 8
    let value2 := u32 ws 12
    let rate := max 1 (min 3000 value2)
    let jumpUnits := max (-1800) (min 1800 value1)
    (¬known → validateRecord mode episodes shapes n ws = .error (.unknownKind, BitVec.ofNat 16 n)) ∧
    (known → ¬masked → validateRecord mode episodes shapes n ws = .error (.emptyMask, BitVec.ofNat 16 n)) ∧
    (known → masked → ¬triggered → validateRecord mode episodes shapes n ws = .error (.badTrigger, BitVec.ofNat 16 n)) ∧
    (known → masked → triggered → ¬chained →
      validateRecord mode episodes shapes n ws = .error (.indexRange, BitVec.ofNat 16 (u16 ws 28))) ∧
    (known → masked → triggered → chained → ¬shaped → u32 ws 12 < 65536 →
      validateRecord mode episodes shapes n ws = .error (.indexRange, BitVec.ofNat 16 (u32 ws 12))) ∧
    (known → masked → triggered → chained → shaped →
      ∃ ep clamped, validateRecord mode episodes shapes n ws = .ok ep ∧
        ep = loadEpisode mode n ws ep.kind clamped ep.trigger ∧
        ep.index = n ∧ ep.duration = u32 ws 16 ∧ ep.kind.inRange = true ∧
        (u8 ws 3 = 0 → ep.trigger = .immediate) ∧ (u8 ws 3 = 1 → ep.trigger = .cycle) ∧
        (u8 ws 3 = 2 → ep.trigger = .angle (u32 ws 4)) ∧ (u8 ws 3 = 3 → ep.trigger = .ext (u32 ws 4)) ∧
        (u8 ws 3 = 4 → ∃ j, laneNumber j = u32 ws 4 ∧ ep.trigger = .cascade j) ∧
        (u8 ws 3 = 5 → ep.trigger = .current (u32 ws 4)) ∧
        (code = 1 → ep.kind = .level (max 0 (min 20000 value1)).toNat) ∧ (code = 2 → ep.kind = .openCircuit) ∧
        (code = 3 → ep.kind = .shape value2) ∧
        (code = 4 → ep.kind = .flicker (max 0 (min 2000 value1)).toNat rate ((3072000 + rate) / (2 * rate))) ∧
        (code = 5 → ep.kind = .freq (max 45000 (min 65000 value1)).toNat value2) ∧
        (code = 6 → ep.kind = .jump jumpUnits (BitVec.ofInt 32 (Int.fdiv (jumpUnits * 2 ^ 32) 3600))) ∧
        (code = 7 → ep.kind = .dwell) ∧ (code = 8 → ep.kind = .mark (BitVec.ofInt 16 value1)) ∧
        (ep.clamped = true ↔
          code = 1 ∧ (value1 < 0 ∨ 20000 < value1) ∨ code = 4 ∧ (value1 < 0 ∨ 2000 < value1) ∨
            code = 4 ∧ (value2 = 0 ∨ 3000 < value2) ∨ code = 5 ∧ (value1 < 45000 ∨ 65000 < value1) ∨
            code = 6 ∧ (value1 < -1800 ∨ 1800 < value1) ∨ 4095 < u16 ws 24 ∨
            (byteAt ws 1).getLsbD 1 = true ∧
              (u8 ws 30 = 0 ∨ 100 < u8 ws 30 ∨ u8 ws 31 = 0 ∨ u16 ws 32 = 0)) ∧
        ep.reference = (if getPhase ep.mask .A then .A else if getPhase ep.mask .B then .B
          else if getPhase ep.mask .C then .C else .A) ∧
        ep.repeatGap = (if u16 ws 24 = 1 then 0 else u16 ws 26) ∧
        ep.watch = (if (byteAt ws 1).getLsbD 1 then
          some { band := max 1 (min 100 (u8 ws 30)), hold := max 1 (u8 ws 31), limit := max 1 (u16 ws 32) }
          else none) ∧
        ep.components = [] ∧
        (∀ x, getPhase ep.mask x = ((byteAt ws 2).getLsbD (phaseBit x) && present mode x)) ∧
        ep.repeatCount = min (u16 ws 24) 4095 ∧ ep.markOut = (byteAt ws 1).getLsbD 2 ∧
        ep.next = if (byteAt ws 1).getLsbD 0 then some (u16 ws 28) else none)

/-- The ramps of a LEVEL record are cut to fit its duration, the entry ramp first; RAMP_CUT is set when a cut changed
one and appears in EPISODE_START of every application; every other kind has no ramps and RAMP_CUT clear (R42). -/
def Obligations.RampsAreCutToFit : Prop :=
  ∀ (mode : BitVec 2) (n : Nat) (ws : List Word) (kind : Kind) (clamped : Bool) (trigger : Trigger),
    let ep := loadEpisode mode n ws kind clamped trigger
    ((∃ target, kind = .level target) →
      ep.entry = min (u16 ws 20) (u32 ws 16) ∧ ep.exit = min (u16 ws 22) (u32 ws 16 - ep.entry) ∧
        ep.hold = u32 ws 16 - ep.entry - ep.exit ∧
        (ep.rampCut = true ↔ ep.entry ≠ u16 ws 20 ∨ ep.exit ≠ u16 ws 22)) ∧
    ((∀ target, kind ≠ .level target) →
      ep.entry = 0 ∧ ep.hold = u32 ws 16 ∧ ep.exit = 0 ∧ ep.rampCut = false) ∧
    ep.entry + ep.hold + ep.exit = ep.duration ∧
    ∀ (e : SampleEnv) (late : Bool) (start : PerPhase Int) (iref application : Nat),
      ∃ r rest, startRecords e ep late start iref application = r :: rest ∧
        r.body.kindCode = 1 ∧ r.body.detail.getLsbD 1 = ep.rampCut

/-- The two shape reads: a count of 1 to 12 requests the components and any other is refused with BAD_SHAPE; components
whose orders all lie in 2 to 40 are loaded with their amplitudes and phases brought into range, and any others are
refused with BAD_SHAPE; the offending index is that of the shape set. A refusal for the current slot halts the lane, and
one for the next slot leaves it REFUSED; a read that its lane no longer wants is discarded (R11, R17, R37, R40, R41,
R43, R46, R47, R70). -/
def Obligations.ShapeReadsLoadOrRefuse : Prop :=
  ∀ (s : State) (tr : Transaction) (k : LaneId) (ep : Episode) (j : Nat),
    s.rstLow = false → s.port.slot = some tr → tr.orphan = false → ep.kind = .shape j → j < 65536 →
    ep.index < 65536 →
    let discarded : State := { s with port := { s.port with slot := none } }
    let index : Half := BitVec.ofNat 16 ep.index
    let refusal : Record := s.record (some k) index (.planRefused .badShape (BitVec.ofNat 16 j))
    let refusedAt (t : State) : Prop :=
      t = { discarded with lanes := t.lanes, journal := t.journal, window := s.window.setFlag .plan } ∧
      (∀ j', j' ≠ k → getLane t.lanes j' = getLane s.lanes j') ∧
      ((getLane s.lanes k).state = .fetching →
        (getLane t.lanes k).state = .halted ∧ (getLane t.lanes k).request = none ∧
          t.journal = (s.journal.post refusal).post (s.record (some k) index (.laneHalted .badShape))) ∧
      ((getLane s.lanes k).state ≠ .fetching → (getLane s.lanes k).state ≠ .idle →
        getLane t.lanes k = { getLane s.lanes k with next := .refused .badShape index, request := none } ∧
          t.journal = s.journal.post refusal)
    (∀ word,
      (tr.kind = .laneFetch k (.shapeCount ep) false →
        exec (.shapeCountReadComplete word) s = .next discarded) ∧
      (tr.kind = .laneFetch k (.shapeCount ep) true →
        (1 ≤ word.toNat % 256 → word.toNat % 256 ≤ 12 →
          exec (.shapeCountReadComplete word) s = .next { discarded with
            lanes := setLane s.lanes k
              { getLane s.lanes k with request := some (.shapeComponents ep (word.toNat % 256)) } }) ∧
        (word.toNat % 256 = 0 ∨ 13 ≤ word.toNat % 256 →
          ∃ t, exec (.shapeCountReadComplete word) s = .next t ∧ refusedAt t))) ∧
    ∀ (words : Vector Word 18) (count : Nat), count ≤ 12 →
      (tr.kind = .laneFetch k (.shapeComponents ep count) false →
        exec (.shapeComponentReadComplete words) s = .next discarded) ∧
      (tr.kind = .laneFetch k (.shapeComponents ep count) true →
        ((∀ m, m < count → 2 ≤ u16 words.toList (6 * m) ∧ u16 words.toList (6 * m) ≤ 40) →
          ∃ t ep', exec (.shapeComponentReadComplete words) s = .next t ∧
            (∀ j', j' ≠ k → getLane t.lanes j' = getLane s.lanes j') ∧
            ((getLane s.lanes k).state = .fetching →
              (getLane t.lanes k).state = .waiting ∧ (getLane t.lanes k).current = some ep' ∧
                s.fillsNextIn t s.control.engine k ep') ∧
            ((getLane s.lanes k).state ≠ .fetching →
              getLane t.lanes k = { getLane s.lanes k with next := .loaded ep', request := none }) ∧
            ep' = { ep with components := ep'.components, clamped := ep'.clamped } ∧
            ep'.components = (List.range count).map (fun m =>
              { order := u16 words.toList (6 * m), amplitude := min (u16 words.toList (6 * m + 2)) 3000
                phase := u16 words.toList (6 * m + 4) % 3600 }) ∧
            (ep'.clamped = true ↔ ep.clamped = true ∨ ∃ m, m < count ∧
              (3000 < u16 words.toList (6 * m + 2) ∨ 3600 ≤ u16 words.toList (6 * m + 4)))) ∧
        ((∃ m, m < count ∧ (u16 words.toList (6 * m) < 2 ∨ 40 < u16 words.toList (6 * m))) →
          ∃ t, exec (.shapeComponentReadComplete words) s = .next t ∧ refusedAt t))

/-- The completed writes: a taken-count write-back clears its mark, or sets it and requests again when the count has
advanced; a journal record leaves the queue, W advances, the drops it reported are no longer counted, and the count
write follows at the grant's base; and a written count sets FLAGS.JOURNAL and leaves none owed (R10, R13, R166). That a
count write that waits for its grant is withdrawn with the owed mark is an inference from R13 (log entry 33). -/
def Obligations.CompletedWritesSettleTheCounts : Prop :=
  ∀ (s : State) (tr : Transaction), s.rstLow = false → s.port.slot = some tr → tr.orphan = false →
    (∀ k value, tr.kind = .takenCount k value →
      (getLane s.port.taken k = value →
        exec .takenCountWriteBackComplete s = .next { s with port := { s.port with
          slot := none
          takenOwed := setLane s.port.takenOwed k false
          takenRequest := setLane s.port.takenRequest k (getLane s.port.takenRequest k) } }) ∧
      (getLane s.port.taken k ≠ value →
        exec .takenCountWriteBackComplete s = .next { s with port := { s.port with
          slot := none
          takenOwed := setLane s.port.takenOwed k true
          takenRequest := setLane s.port.takenRequest k true } })) ∧
    (∀ dropsTaken, tr.kind = .journalRecord dropsTaken →
      exec .journalRecordWriteComplete s = .next { s with
        journal := { queue := s.journal.queue.tail, drops := s.journal.drops - dropsTaken }
        port := { s.port with
          written := s.port.written + 1
          slot := some { kind := .journalCount, base := tr.base, address := tr.base + 216, writes := true
                         length := 1, data := [s.port.written + 1], timer := 0, orphan := false } } }) ∧
    (tr.kind = .journalCount ∨ tr.kind = .writtenCount →
      exec .writtenCountWriteComplete s = .next { s with
        port := { s.port with slot := none, writtenOwed := false, writtenRequest := false }
        window := s.window.setFlag .journal })

/-- An error response ends the transaction in flight, sets FLAGS.BUS and gives its requester the outcome of the table of
bus endings (R4, R6, R9 to R11, R13, R15): a lane's fetch is refused with PLAN_REFUSED / BUS, for the current slot with
the lane HALTED and for the next slot with the slot REFUSED (R8, R40, R70); with the slot IDLE it is ignored. That
the failure of a fetch its lane no longer wants refuses nothing is the model's choice (log entry 29), and that a count
write that already waits goes on waiting when a later one fails is another (log entry 34). -/
def Obligations.BusErrorEndsTheTransaction : Prop :=
  (∀ s : State, s.port.slot = none → exec .busErrorResponse s = .next s) ∧
  ∀ (s : State) (tr : Transaction), s.rstLow = false → s.port.slot = some tr → tr.orphan = false →
    (tr.kind = .loadHeader ∨ (∃ h, tr.kind = .loadReadCount h) ∨ (∃ h w, tr.kind = .loadWriteCount h w) →
      exec .busErrorResponse s = .next { s with
        control := { s.control with engine := .standby }
        port := { s.port with slot := none }
        journal := s.journal.post (s.record none 0xFFFF (.engine .startRefused .standby .bus none 0))
        window := (s.window.setFlag .bus).setFlag .run }) ∧
    (tr.kind = .scan →
      exec .busErrorResponse s = .next { s with
        port := { s.port with
          slot := none
          takenRequest := tabLane fun k => getLane s.port.takenRequest k || getLane s.port.takenOwed k
          writtenRequest := s.port.writtenRequest || s.port.writtenOwed }
        window := s.window.setFlag .bus }) ∧
    (∀ d, tr.kind = .journalRecord d →
      exec .busErrorResponse s = .next { s with
        journal := { queue := s.journal.queue.tail, drops := min (s.journal.drops + 1) 4294967295 }
        port := { s.port with slot := none }
        window := s.window.setFlag .bus }) ∧
    (tr.kind = .journalCount ∨ tr.kind = .writtenCount →
      exec .busErrorResponse s = .next { s with
        port := { s.port with slot := none, writtenOwed := true }
        window := s.window.setFlag .bus }) ∧
    (∀ k value, tr.kind = .takenCount k value →
      exec .busErrorResponse s = .next { s with
        port := { s.port with slot := none }
        window := s.window.setFlag .bus }) ∧
    (∀ k f, tr.kind = .laneFetch k f false →
      exec .busErrorResponse s = .next { s with
        port := { s.port with slot := none }
        window := s.window.setFlag .bus }) ∧
    (∀ k f, tr.kind = .laneFetch k f true → ∃ t, exec .busErrorResponse s = .next t ∧
      t = { s with port := { s.port with slot := none }, lanes := t.lanes, journal := t.journal
                   window := (s.window.setFlag .bus).setFlag .plan } ∧
      (∀ j, j ≠ k → getLane t.lanes j = getLane s.lanes j) ∧
      ((getLane s.lanes k).state = .fetching →
        (getLane t.lanes k).state = .halted ∧ (getLane t.lanes k).request = none) ∧
      ∀ index offending : Half,
        (f = .cue ∧ index = 0xFFFF ∧ offending = BitVec.ofNat 16 ((getLane s.port.taken k).toNat % 16) ∨
          (∃ n, f = .episode n ∧ n < 65536 ∧ index = BitVec.ofNat 16 n ∧ offending = BitVec.ofNat 16 n) ∨
          (∃ ep j, (f = .shapeCount ep ∨ ∃ c, f = .shapeComponents ep c) ∧ ep.kind = .shape j ∧ j < 65536 ∧
            ep.index < 65536 ∧ index = BitVec.ofNat 16 ep.index ∧ offending = BitVec.ofNat 16 j)) →
        ((getLane s.lanes k).state = .fetching →
          t.journal = (s.journal.post (s.record (some k) index (.planRefused .bus offending))).post
            (s.record (some k) index (.laneHalted .bus))) ∧
        ((getLane s.lanes k).state = .waiting ∨ (getLane s.lanes k).state = .active ∨
            (getLane s.lanes k).state = .gap →
          getLane t.lanes k = { getLane s.lanes k with next := .refused .bus index, request := none } ∧
            t.journal = s.journal.post (s.record (some k) index (.planRefused .bus offending))))

/-- A transaction that a soft reset has disowned only ends: its data is discarded, and no count, copy, flag or requester
hears of it, whether it completes or fails (R19). -/
def Obligations.DisownedTransactionsOnlyEnd : Prop :=
  ∀ (s : State) (tr : Transaction), s.rstLow = false → s.port.slot = some tr → tr.orphan = true →
    exec .busErrorResponse s = .next { s with port := { s.port with slot := none } } ∧
    (tr.kind = .loadHeader → ∀ ws,
      exec (.runSettingsReadComplete (.header ws)) s = .next { s with port := { s.port with slot := none } }) ∧
    (∀ h, tr.kind = .loadReadCount h → ∀ w,
      exec (.runSettingsReadComplete (.readCount w)) s = .next { s with port := { s.port with slot := none } }) ∧
    (∀ h w, tr.kind = .loadWriteCount h w →
      exec .loadComplete s = .next { s with port := { s.port with slot := none } }) ∧
    (tr.kind = .scan → ∀ ws,
      exec (.scanComplete ws) s = .next { s with port := { s.port with slot := none } }) ∧
    (∀ k b, tr.kind = .laneFetch k .cue b → ∀ w,
      exec (.cueFetchComplete w) s = .next { s with port := { s.port with slot := none } }) ∧
    (∀ k n b, tr.kind = .laneFetch k (.episode n) b → ∀ ws,
      exec (.episodeFetchComplete ws) s = .next { s with port := { s.port with slot := none } }) ∧
    (∀ k ep b, tr.kind = .laneFetch k (.shapeCount ep) b → ∀ w,
      exec (.shapeCountReadComplete w) s = .next { s with port := { s.port with slot := none } }) ∧
    (∀ k ep c b, tr.kind = .laneFetch k (.shapeComponents ep c) b → ∀ ws,
      exec (.shapeComponentReadComplete ws) s = .next { s with port := { s.port with slot := none } }) ∧
    (∀ k v, tr.kind = .takenCount k v →
      exec .takenCountWriteBackComplete s = .next { s with port := { s.port with slot := none } }) ∧
    (∀ d, tr.kind = .journalRecord d →
      exec .journalRecordWriteComplete s = .next { s with port := { s.port with slot := none } }) ∧
    (tr.kind = .journalCount ∨ tr.kind = .writtenCount →
      exec .writtenCountWriteComplete s = .next { s with port := { s.port with slot := none } })

/-- A transaction whose wait timer reaches 64 at a sample event ends there: FLAGS.BUS is set, nothing it carried counts
as moved, and its requester takes the outcome of an error; one that a soft reset has disowned only ends (R4, R9, R13,
R15, R19). Of lane fetches the clause is on one for the current slot, taken before the lanes' work. That the row is the
whole sample event is the model's choice (log entry 1), and so is that a count write which already waits goes on waiting
when a later one fails (log entry 34); that the ENGINE record carries that event's counters is an inference (log entry
24). -/
def Obligations.BusWaitExpiryEndsTheTransaction : Prop :=
  ∀ (i : SampleInputs) (s : State) (tr : Transaction), s.rstLow = false → s.port.slot = some tr → 64 ≤ tr.timer + 1 →
    ∃ t, exec (.busWaitExpiry i) s = .next t ∧ exec (.sampleEvent i) s = .next t ∧ t.port.slot = none ∧
      t.port.posted = s.port.posted ∧ t.port.taken = s.port.taken ∧ t.port.written = s.port.written ∧
      t.port.readCount = s.port.readCount ∧ t.port.planBase = s.port.planBase ∧
      t.window.has .bus = (s.window.has .bus || !tr.orphan) ∧
      (tr.orphan = false →
        ((tr.kind = .loadHeader ∨ (∃ h, tr.kind = .loadReadCount h) ∨ (∃ h w, tr.kind = .loadWriteCount h w)) →
          s.control.engine = .loading → s.control.progress = .none →
          t.control.engine = .standby ∧ t.window.has .run = true ∧
            posted s t (t.record none 0xFFFF (.engine .startRefused .standby .bus none 0)) = true) ∧
        (∀ d head rest, tr.kind = .journalRecord d → s.journal.queue = head :: rest → rest.length ≤ 7 →
          s.journal.drops < 4294967295 →
          (∃ more, t.journal.queue = rest ++ more) ∧ s.journal.drops < t.journal.drops) ∧
        (tr.kind = .journalCount ∨ tr.kind = .writtenCount →
          t.port.writtenOwed = true ∧ t.port.writtenRequest = s.port.writtenRequest) ∧
        (∀ k v, tr.kind = .takenCount k v →
          t.port.takenOwed = s.port.takenOwed ∧ t.port.takenRequest = s.port.takenRequest) ∧
        (tr.kind = .scan →
          t.port.writtenRequest = (s.port.writtenRequest || s.port.writtenOwed) ∧
            ∀ k, getLane t.port.takenRequest k = (getLane s.port.takenRequest k || getLane s.port.takenOwed k)) ∧
        (∀ k f, tr.kind = .laneFetch k f true → i.expiryFirst = true → (getLane s.lanes k).state = .fetching →
          s.releaseDue = false → (getLane t.lanes k).state = .halted ∧ t.window.has .plan = true))

/-! ### Sample events -/

/-- A frame of 13 bytes before its end marker, its bytes summing to 0 modulo 256, is held with its six codes, high byte
first, in place of one held before; any other frame changes nothing (R134, R135). -/
def Obligations.MeasurementFrameIsHeldWhenGood : Prop :=
  ∀ (f : FrameArrival) (s : State), s.rstLow = false →
    let code (n : Nat) : Int :=
      (BitVec.ofNat 16 (256 * (f.bytes.getD n 0).toNat + (f.bytes.getD (n + 1) 0).toNat)).toInt
    let good := f.ended = true ∧ f.acrossSoftReset = false ∧ f.bytes.length = 13 ∧
      (f.bytes.map BitVec.toNat).sum % 256 = 0
    (good → exec (.measurementFrame f) s = .next { s with
      measure := { s.measure with
        holder := some { v := ⟨code 0, code 2, code 4⟩, i := ⟨code 6, code 8, code 10⟩ } } }) ∧
    (¬good → exec (.measurementFrame f) s = .next s)

/-- A sample event that is no cycle start and no restart: the angle advances by the increment, the sample count by 1,
the wait timer by 1; the lines and TRIG are sampled; the measurement of the sample, fresh or held, joins the cycle; a
RELEASE is no longer pending; the fetch in flight of a lane released, halted or stopped is unwanted; and what only a
load, a scan, a fetch or a window write sets stays (R15, R17, R53, R88, R89, R91, R123, R135 to R137, R154, R157). -/
def Obligations.SampleEventAdvancesEveryBlock : Prop :=
  ∀ (i : SampleInputs) (s : State), s.rstLow = false → s.timebase.restartDue = .none →
    s.timebase.theta.toNat + s.timebase.increment < 4294967296 → s.noExpiry = true →
    ∃ t, exec (.sampleEvent i) s = .next t ∧ t.rstLow = false ∧ t.pending = s.pending ∧
      t.timebase = { s.timebase with
        theta := s.timebase.theta + BitVec.ofNat 32 s.timebase.increment
        previous := s.timebase.theta, sample := s.timebase.sample + 1 } ∧
      t.port = { s.port with slot := t.port.slot } ∧ (s.port.slot = none → t.port.slot = none) ∧
      (∀ tr, s.port.slot = some tr →
        ∃ kind, t.port.slot = some { tr with timer := tr.timer + 1, kind := kind }) ∧
      (1 ≤ s.measure.tripCount → t.port.slot = s.slotDue i) ∧
      t.previousTrig = some i.trig ∧ t.link.ready = i.ready ∧ t.link.fault = i.fault ∧
      t.control.previousFault = i.fault ∧ t.control.mode = s.control.mode ∧ t.control.pendingRelease = false ∧
      (i.fault = true → s.control.previousFault = false → t.window.has .fault = true) ∧
      t.window.mask = s.window.mask ∧
      t.measure.holder = none ∧ t.measure.lastGood = s.sampleCodes ∧ t.measure.count = s.measure.count + 1 ∧
      t.measure.cycleStale = s.measure.cycleStale + (if s.measure.holder.isNone then 1 else 0) ∧
      t.measure.liveStale =
        (if s.openedState.live && s.measure.holder.isNone then min (s.measure.liveStale + 1) 256 else 0) ∧
      (∀ x, getPhase t.measure.sumV x = getPhase s.measure.sumV x + (getPhase s.sampleCodes.v x).natAbs ^ 2 ∧
        getPhase t.measure.sumI x = getPhase s.measure.sumI x + (getPhase s.sampleCodes.i x).natAbs ^ 2 ∧
        getPhase t.measure.peakI x = max (getPhase s.measure.peakI x) (getPhase s.sampleCodes.i x).natAbs) ∧
      t.measure.figures = s.measure.figures ∧ t.measure.summaryCounter = s.measure.summaryCounter ∧
      t.measure.tripCode = s.measure.tripCode ∧ t.measure.tripCount = s.measure.tripCount ∧
      t.measure.summaryPeriod = s.measure.summaryPeriod ∧ t.measure.currentFloor = s.measure.currentFloor ∧
      t.composer.steady = s.composer.steady ∧ t.composer.softLength = s.composer.softLength ∧
      t.composer.releaseLength = s.composer.releaseLength ∧ t.synth.peak = s.synth.peak ∧
      t.synth.ceiling = s.synth.ceiling ∧ t.relays.closeTime = s.relays.closeTime ∧
      t.relays.openTime = s.relays.openTime

/-- The drive link at a sample event: the frame shifted before is strobed, the frame of the sample before is shifted, or
zeros in TRIPPED and FAULTED, and this sample's frame goes to the other buffer, its codes within the ceiling, 0 for an
absent phase and 0 in the silent engine states; a word is the two's complement of its code (R112, R115, R116, R118 to
R121). -/
def Obligations.DriveLinkSendsTheFrameBefore : Prop :=
  ∀ (i : SampleInputs) (s : State), s.rstLow = false → s.noExpiry = true →
    ∃ t, exec (.sampleEvent i) s = .next t ∧
      t.link.strobe = s.link.shifting.isSome ∧
      (∀ ws, s.link.shifting = some ws → t.link.strobed = some ws) ∧
      t.link.writesBuffer1 = !s.link.writesBuffer1 ∧
      (let before := if s.link.writesBuffer1 then s.link.buffer0 else s.link.buffer1
       let formed := if s.link.writesBuffer1 then t.link.buffer1 else t.link.buffer0
       let kept := if s.link.writesBuffer1 then t.link.buffer0 else t.link.buffer1
       kept = before ∧
       (∃ ws, t.link.shifting = some ws ∧
         (t.control.engine = .tripped ∨ t.control.engine = .faulted → ∀ x, getPhase ws x = 0) ∧
         (t.control.engine ≠ .tripped → t.control.engine ≠ .faulted → ∀ x,
           -524288 ≤ getPhase before x → getPhase before x ≤ 524287 →
             (getPhase ws x).toInt = getPhase before x)) ∧
       ∀ x, -(s.synth.ceiling : Int) ≤ getPhase formed x ∧ getPhase formed x ≤ s.synth.ceiling ∧
         (present s.control.mode x = false → getPhase formed x = 0) ∧
         (t.control.engine ∈ [EngineState.standby, .loading, .closing, .tripped, .faulted] →
           getPhase formed x = 0))

/-- A cycle start: the angle wraps and keeps its residue, the cycle count rises and the sample count is 0; the frequency
moves toward the FREQ owner's target or toward nominal, and forms the increment; the figures of the cycle just ended are
delivered and the next cycle begins with this sample; and a scan is requested in SOFTSTART, RUNNING and RELEASING (R5,
R89 to R91, R94, R95, R113, R137 to R139). The transaction in flight goes on, unwanted where its lane is released,
halted or stopped (R17). That the row is the whole sample event is the model's choice (log entry 1), that the scan is
judged by the state of the opening, even at a protection, an inference (log entry 15), and that it waits beside a scan
in flight which a soft reset has disowned another, from R19, where R5 speaks of a scan in flight alone (log entry 8). -/
def Obligations.CycleStartBeginsACycle : Prop :=
  ∀ (i : SampleInputs) (s : State), s.rstLow = false → s.cycleStartDue = true → s.noExpiry = true →
    ∃ t, exec (.cycleStart i) s = .next t ∧ exec (.sampleEvent i) s = .next t ∧
      t.timebase = { s.timebase with
        theta := s.timebase.theta + BitVec.ofNat 32 s.timebase.increment
        previous := s.timebase.theta, cycle := s.timebase.cycle + 1, sample := 0
        frequency := t.timebase.frequency, increment := t.timebase.increment } ∧
      (∀ target slew, t.composer.freqOwner t.lanes = some (target, slew) →
        t.timebase.frequency = moveFrequency s.timebase.frequency target slew) ∧
      (t.composer.freqOwner t.lanes = none →
        t.timebase.frequency = moveFrequency s.timebase.frequency s.timebase.nominal s.timebase.returnSlew) ∧
      t.timebase.increment = (t.timebase.frequency * 2 ^ 33 + 25600000) / 51200000 ∧
      (∀ x, (getPhase s.measure.sumV x / s.measure.count < 2 ^ 32 →
          getPhase t.measure.figures.rmsV x = Nat.sqrt (getPhase s.measure.sumV x / s.measure.count)) ∧
        (getPhase s.measure.sumI x / s.measure.count < 2 ^ 32 →
          getPhase t.measure.figures.rmsI x = Nat.sqrt (getPhase s.measure.sumI x / s.measure.count)) ∧
        getPhase t.measure.figures.peakI x = getPhase s.measure.peakI x ∧
        getPhase t.measure.figures.clips x = getPhase s.synth.cycleClips x ∧
        getPhase t.measure.sumV x = (getPhase s.sampleCodes.v x).natAbs ^ 2 ∧
        getPhase t.measure.sumI x = (getPhase s.sampleCodes.i x).natAbs ^ 2 ∧
        getPhase t.measure.peakI x = (getPhase s.sampleCodes.i x).natAbs ∧
        getPhase t.synth.cycleClips x ≤ 1) ∧
      t.measure.figures.stale = s.measure.cycleStale ∧ t.measure.count = 1 ∧
      t.measure.cycleStale = (if s.measure.holder.isNone then 1 else 0) ∧
      ((s.openedState = .softstart ∨ s.openedState = .running ∨ s.openedState = .releasing) →
        (∀ tr, s.port.slot = some tr → tr.kind = .scan → tr.orphan = true) → t.port.scanRequest = true) ∧
      (s.openedState ≠ .softstart → s.openedState ≠ .running → s.openedState ≠ .releasing →
        t.port.scanRequest = s.port.scanRequest) ∧
      (1 ≤ s.measure.tripCount → t.port.slot = s.slotDue i)

/-- A restart is the start of cycle 0: angle, previous angle and counters are 0, the frequency, the increment, the slew
and the offsets are those of the load or of reset, the sample is no cycle start, and the cycle figures and the summary
counter are 0 (R87, R92, R93, R96, R113, R137, R139, R140); the transaction in flight goes on, unwanted where its lane
is released, halted or stopped (R17). That the row is the whole sample event, and that a row whose event does not come
about changes nothing, are the model's choice (log entry 1). -/
def Obligations.RestartBeginsCycleZero : Prop :=
  ∀ (i : SampleInputs) (s : State), s.rstLow = false → s.timebase.restartDue ≠ .none → s.noExpiry = true →
    ∃ t, exec (.restart i) s = .next t ∧ exec (.sampleEvent i) s = .next t ∧
      exec (.cycleStart i) s = .next s ∧
      t.timebase = { s.timebase with
        theta := 0, previous := 0, cycle := 0, sample := 0, restartDue := .none, offsets := t.timebase.offsets
        frequency := if s.timebase.restartDue = .afterLoad then s.timebase.latchedNominal else 50000
        nominal := if s.timebase.restartDue = .afterLoad then s.timebase.latchedNominal else 50000
        returnSlew := if s.timebase.restartDue = .afterLoad then s.timebase.latchedSlew else 0
        increment := ((if s.timebase.restartDue = .afterLoad then s.timebase.latchedNominal else 50000) * 2 ^ 33 +
          25600000) / 51200000 } ∧
      (getPhase t.timebase.offsets .A = 0 ∧
        (s.control.mode = 1 → getPhase t.timebase.offsets .B = 0x80000000) ∧
        (s.control.mode = 2 →
          getPhase t.timebase.offsets .B = 2863311531 ∧ getPhase t.timebase.offsets .C = 1431655765) ∧
        (s.control.mode = 3 → s.timebase.restartDue = .afterLoad →
          getPhase t.timebase.offsets .B = BitVec.ofNat 32 (s.timebase.latchedOffsetB * 2 ^ 32 / 3600) ∧
          getPhase t.timebase.offsets .C = BitVec.ofNat 32 (s.timebase.latchedOffsetC * 2 ^ 32 / 3600)) ∧
        (s.control.mode = 3 → s.timebase.restartDue = .afterReset →
          getPhase t.timebase.offsets .B = 0 ∧ getPhase t.timebase.offsets .C = 0)) ∧
      (∀ x, getPhase t.measure.figures.rmsV x = 0 ∧ getPhase t.measure.figures.rmsI x = 0 ∧
        getPhase t.measure.figures.peakI x = 0 ∧ getPhase t.measure.figures.clips x = 0 ∧
        getPhase t.measure.sumV x = (getPhase s.sampleCodes.v x).natAbs ^ 2 ∧
        getPhase t.measure.sumI x = (getPhase s.sampleCodes.i x).natAbs ^ 2 ∧
        getPhase t.synth.cycleClips x ≤ 1) ∧
      t.measure.figures.stale = 0 ∧ t.measure.count = 1 ∧ t.measure.summaryCounter = 0 ∧
      t.port.scanRequest = s.port.scanRequest ∧ (1 ≤ s.measure.tripCount → t.port.slot = s.slotDue i)

/-! ### Run control at a sample event -/

/-- The engine state of a sample event: the opening enters any progress due and then acts on a pending RELEASE in
CLOSING, SOFTSTART and RUNNING; a protection present then makes it TRIPPED or FAULTED, the first in the order taken; and
the progress due after it is the one its state and the relays call for (R149, R152 to R159). -/
def Obligations.EngineStateOfASample : Prop :=
  ∀ (i : SampleInputs) (s : State), s.rstLow = false → s.noExpiry = true → 1 ≤ s.measure.tripCount →
    ∃ t, exec (.sampleEvent i) s = .next t ∧
      (s.unprotected i = true → t.control.engine = s.openedState) ∧
      (∀ p, s.protectionDue i = some p →
        t.control.engine = match p with
          | .trip => .tripped
          | .fault => .faulted
          | .measLost => .faulted) ∧
      t.control.pendingRelease = false ∧
      t.control.deferredClear =
        (s.control.deferredClear && !(s.control.progress == .standby && s.control.engine == .tripped)) ∧
      (t.control.progress = .softstart ↔ t.control.engine = .closing ∧
        ∀ x, present s.control.mode x = true → (getPhase t.relays.relay x).state = .closed) ∧
      (t.control.progress = .running ↔ t.control.engine = .softstart ∧
        t.composer.softLength ≤ t.composer.softAdvance * 3600 / 2 ^ 32) ∧
      (t.control.progress = .standby ↔
        (t.control.engine = .releasing ∧ t.composer.rampComplete = true ∨
          t.control.engine = .tripped ∧ t.control.deferredClear = true) ∧
        ∀ x, present s.control.mode x = true → (getPhase t.relays.relay x).state = .opened)

/-- The opening enters the progress due: SOFTSTART from CLOSING, RUNNING from SOFTSTART with FLAGS.RUN, STANDBY at the
end of a release or by a deferred CLEAR with FLAGS.RUN, each posting its ENGINE record (R149, R152, R153, R155, R159).
That each row is the whole sample event is the model's choice (log entry 1). -/
def Obligations.ProgressIsEnteredAtTheOpening : Prop :=
  ∀ (i : SampleInputs) (s : State), s.rstLow = false → s.noExpiry = true → 1 ≤ s.measure.tripCount →
    (s.control.progress = .softstart →
      ∃ t, exec (.enterSoftstart i) s = .next t ∧ exec (.sampleEvent i) s = .next t ∧
        posted s t (t.record none 0xFFFF (.engine .closed .softstart .none none 0)) = true ∧
        t.composer.softAdvance = 0 ∧
        (s.control.pendingRelease = false → s.unprotected i = true → t.control.engine = .softstart)) ∧
    (s.control.progress = .running →
      ∃ t, exec (.enterRunning i) s = .next t ∧ exec (.sampleEvent i) s = .next t ∧ t.window.has .run = true ∧
        posted s t (t.record none 0xFFFF (.engine .softstartDone .running .none none 0)) = true ∧
        (s.control.pendingRelease = false → s.unprotected i = true → t.control.engine = .running)) ∧
    (s.control.progress = .standby → s.control.engine = .releasing →
      ∃ t, exec (.released i) s = .next t ∧ exec (.sampleEvent i) s = .next t ∧ t.window.has .run = true ∧
        posted s t (t.record none 0xFFFF (.engine .released .standby .none none 0)) = true ∧
        t.control.engine = .standby ∧ t.control.progress = .none) ∧
    (s.control.progress = .standby → s.control.engine = .tripped →
      ∃ t, exec (.deferredClear i) s = .next t ∧ exec (.sampleEvent i) s = .next t ∧ t.window.has .run = true ∧
        posted s t (t.record none 0xFFFF (.engine .clear .standby .none none 0)) = true ∧
        t.control.engine = .standby ∧ t.control.deferredClear = false ∧ t.control.progress = .none)

/-- A RELEASE acted on: ENGINE / RELEASE is posted, every application is cut with its figures, every armed watch posts
WATCH_RESULT / ABANDONED with its cycles, its last RMS and its reference current, and with no protection at that sample
event the engine is RELEASING, every lane that was not HALTED is IDLE and empty, or HALTED where a stop was pending, no
claim is held, and the ramp starts from the last composed levels, or is complete at once from CLOSING or with length 0;
a fetch in flight of a lane made IDLE is unwanted (R17, R68, R79, R86, R133, R145, R146, R154). That a cut at a cycle
start takes that cycle's RMS voltage first is an inference (log entry 14), and that the row is the whole sample event
the model's choice (log entry 1). -/
def Obligations.ReleaseIsActedOn : Prop :=
  ∀ (i : SampleInputs) (s : State), s.rstLow = false → s.noExpiry = true → 1 ≤ s.measure.tripCount →
    s.releaseDue = true →
    ∃ t, exec (.releaseActedOn i) s = .next t ∧ exec (.sampleEvent i) s = .next t ∧
      posted s t (t.record none 0xFFFF (.engine .release .releasing .none none 0)) = true ∧
      t.port.slot = s.slotDue i ∧
      (∀ k, (getLane t.watches k).armed = false ∧ ((getLane s.watches k).armed = true →
        posted s t ((getLane s.watches k).endedRecord t k .abandoned (getLane s.watches k).cycles
          (getLane s.watches k).lastRms) = true)) ∧
      t.composer.claims = Claims.none ∧
      (∀ k ep, (getLane s.lanes k).state = .active → (getLane s.lanes k).current = some ep →
        posted s t (s.endRecord t true k ep) = true) ∧
      (s.unprotected i = true →
        t.control.engine = .releasing ∧
        (∀ k, (getLane s.lanes k).state ≠ .halted →
          (getLane t.lanes k).state = (if (getLane s.lanes k).pendingStop then .halted else .idle) ∧
          (getLane t.lanes k).current = none ∧ (getLane t.lanes k).next = .empty ∧
          (getLane t.lanes k).request = none ∧ (getLane t.lanes k).pendingStop = false) ∧
        (∀ k, (getLane s.lanes k).state = .halted → (getLane t.lanes k).state = .halted) ∧
        t.composer.rampComplete = (decide (s.enteredState = .closing) || decide (s.composer.releaseLength = 0)) ∧
        t.composer.rampRunning = !t.composer.rampComplete ∧ t.composer.releaseAdvance = 0 ∧
        ∀ x, getPhase t.composer.releaseOrigin x =
            (if s.enteredState = .closing then 0 else getPhase s.composer.lastComposed x) ∧
          getPhase t.composer.lastComposed x =
            (if present s.control.mode x = true ∧ t.composer.rampComplete = false then
              getPhase s.composer.lastComposed x else 0))

/-- A protection acted on: a trip names the first phase whose run count reaches the trip count, with its peak; every
lane is HALTED and emptied, with no stop pending, its application cut with its figures and its fetch in flight unwanted
(R17); every armed watch posts
WATCH_RESULT / ABANDONED, with the cycle uncounted, or counted where the cycle start is taken first and does not end the
watch; no claim is held; the composed levels are 0; every present relay is OPEN or OPENING; the link shifts zeros; and
the flag of the new state is set (R69, R81, R115, R121, R130, R133, R136, R141, R144 to R146, R156 to R158). That a cut
at a cycle start takes that cycle's RMS voltage first is an inference (log entry 14). That the rows TRIP and MEAS_LOST
are the whole sample event is the model's choice (log entry 1). -/
def Obligations.ProtectionStopsTheRun : Prop :=
  ∀ (i : SampleInputs) (s : State), s.rstLow = false → s.noExpiry = true → 1 ≤ s.measure.tripCount →
    ∀ p, s.protectionDue i = some p →
    ∃ t, exec (.sampleEvent i) s = .next t ∧
      (p = .trip → exec (.trip i) s = .next t ∧ t.control.engine = .tripped ∧ t.window.has .trip = true ∧
        ∃ x, s.tripsOn x = true ∧ (x = .B → s.tripsOn .A = false) ∧
          (x = .C → s.tripsOn .A = false ∧ s.tripsOn .B = false) ∧
          posted s t (t.record none 0xFFFF (.engine .trip .tripped .none (some x)
            (BitVec.ofNat 16 (max (getPhase s.measure.runPeak x) (getPhase s.sampleCodes.i x).natAbs)))) = true) ∧
      (p = .fault → t.control.engine = .faulted ∧ t.window.has .fault = true ∧
        posted s t (t.record none 0xFFFF (.engine .fault .faulted .none none 0)) = true) ∧
      (p = .measLost → exec (.measLost i) s = .next t ∧ t.control.engine = .faulted ∧ t.window.has .fault = true ∧
        posted s t (t.record none 0xFFFF (.engine .measLost .faulted .none none 0)) = true) ∧
      (∀ k, (getLane t.lanes k).state = .halted ∧ (getLane t.watches k).armed = false ∧
        ((getLane s.lanes k).state ≠ .halted →
          (getLane t.lanes k).current = none ∧ (getLane t.lanes k).next = .empty ∧
          (getLane t.lanes k).request = none ∧ (getLane t.lanes k).pendingStop = false)) ∧
      (∀ k ep, (getLane s.lanes k).state = .active → (getLane s.lanes k).current = some ep →
        posted s t (s.endRecord t true k ep) = true) ∧
      (∀ k, let w := getLane s.watches k
        let current := getPhase t.measure.figures.rmsI w.reference
        let inBand : Nat := if |(current : Int) - w.iref| * 100 ≤ w.part.band * w.iref then w.inBand + 1 else 0
        let counted : Prop := s.cycleStartDue = true ∧ getLane i.watchFirst k = true ∧ s.releaseDue = false
        w.armed = true →
          (¬counted → posted s t (w.endedRecord t k .abandoned w.cycles w.lastRms) = true) ∧
          (counted → inBand < w.part.hold → w.cycles + 1 < w.part.limit →
            posted s t (w.endedRecord t k .abandoned (w.cycles + 1) (some current)) = true)) ∧
      t.composer.claims = Claims.none ∧ t.port.slot = s.slotDue i ∧
      (∀ x, getPhase t.composer.lastComposed x = 0 ∧ getPhase t.composer.closeCommand x = false ∧
        (present s.control.mode x = true → (getPhase t.relays.relay x).state ≠ .closing ∧
          (getPhase t.relays.relay x).state ≠ .closed)) ∧
      t.link.shifting = some (perPhase 0)

/-! ### Lanes and watches at a sample event -/

/-- A pending stop is carried out in place of the lane's work when no protection is acted on: the application is cut
with its figures, both slots are emptied, a fetch in flight is unwanted (R17), the lane is HALTED, LANE_HALTED / STOPPED
is posted with the current index, or 0xFFFF where there is none, the stop is no longer pending, and a lane WAITING on a
CASCADE of the lane does not fire (R54, R65, R66, R133). That a cut at a cycle start takes that cycle's RMS voltage
first, and that the record carries 0xFFFF where a RELEASE has emptied the slot at that sample event, are inferences (log
entries 14, 16), and that the row is the whole sample event the model's choice (log entry 1). -/
def Obligations.PendingStopIsCarriedOut : Prop :=
  ∀ (k : LaneId) (i : SampleInputs) (s : State), s.rstLow = false → s.noExpiry = true → 1 ≤ s.measure.tripCount →
    s.unprotected i = true → (getLane s.lanes k).pendingStop = true → (getLane s.lanes k).state ≠ .halted →
    ∃ t, exec (.stopCarriedOut k i) s = .next t ∧ exec (.sampleEvent i) s = .next t ∧
      (getLane t.lanes k).state = .halted ∧ (getLane t.lanes k).pendingStop = false ∧
      (getLane t.lanes k).current = none ∧ (getLane t.lanes k).next = .empty ∧
      (getLane t.lanes k).request = none ∧ t.port.slot = s.slotDue i ∧
      posted s t (t.record (some k)
        (if s.releaseDue then 0xFFFF
         else match (getLane s.lanes k).current with
          | some ep => BitVec.ofNat 16 ep.index
          | none => 0xFFFF)
        (.laneHalted .stopped)) = true ∧
      (∀ ep, (getLane s.lanes k).state = .active → (getLane s.lanes k).current = some ep →
        posted s t (s.endRecord t true k ep) = true) ∧
      ∀ j ep, State.laneRuns i s j = true → (getLane s.lanes j).state = .waiting →
        (getLane s.lanes j).current = some ep → ep.trigger = .cascade k →
        (getLane t.lanes j).state = .waiting ∧ (getLane t.lanes j).application = (getLane s.lanes j).application

/-- A WAITING lane in RUNNING fires at the first sample event at which its trigger's condition is met: it counts the
application, takes its start values, its Iref, the figures of no cycle and its claims, posts EPISODE_START, with LATE
where its LATE mark is set and this is the trigger's first evaluation, and requests the marker for MARK_OUT; an
application of duration 0 ends there with its EPISODE_END. While the condition is not met, or outside RUNNING, it waits
with its evaluation mark set. A CASCADE that names its own lane does not fire; one that names another lane stands with
that lane's END, in ApplicationsAndGapsEnd (R49 to R57, R61, R73). That an evaluation is noted in a mark of the model's
own, CURRENT being evaluated at cycle starts, is an inference from R49 (log entry 12). -/
def Obligations.TriggersFireInRunning : Prop :=
  ∀ (k : LaneId) (i : SampleInputs) (s : State) (ep : Episode), s.noExpiry = true → 1 ≤ s.measure.tripCount →
    State.laneRuns i s k = true → (getLane s.lanes k).state = .waiting → (getLane s.lanes k).current = some ep →
    (∀ j, ep.trigger = .cascade j → j = k) →
    ∃ t, exec (.sampleEvent i) s = .next t ∧
      (let a0 := t.timebase.previous + getPhase t.timebase.offsets ep.reference
       let a1 := t.timebase.theta + getPhase t.timebase.offsets ep.reference
       let met : Prop := match ep.trigger with
        | .immediate => True
        | .cycle => s.cycleStartDue = true
        | .angle u =>
          1 ≤ (BitVec.ofNat 32 (u * 2 ^ 32 / 3600) - a0).toNat ∧
            (BitVec.ofNat 32 (u * 2 ^ 32 / 3600) - a0).toNat ≤ (a1 - a0).toNat
        | .ext code =>
          code = 0 ∧ s.previousTrig = some false ∧ i.trig = true ∨
            code = 1 ∧ s.previousTrig = some true ∧ i.trig = false ∨
            code = 2 ∧ i.trig = true ∨ code = 3 ∧ i.trig = false
        | .cascade _ => False
        | .current n => s.cycleStartDue = true ∧ n ≤ getPhase t.measure.figures.rmsI ep.reference
       (s.openedState ≠ .running ∨ ¬met →
         (getLane t.lanes k).state = .waiting ∧ (getLane t.lanes k).current = some ep ∧
           (getLane t.lanes k).application = (getLane s.lanes k).application ∧
           (getLane t.lanes k).evaluationMark = true ∧ (getLane t.lanes k).late = (getLane s.lanes k).late ∧
           ((getLane t.lanes k).evaluated = true ↔ (getLane s.lanes k).evaluated = true ∨
             s.openedState = .running ∧ ((∃ n, ep.trigger = .current n) → s.cycleStartDue = true))) ∧
       (s.openedState = .running → met → s.firesIn t k ep))

/-- An application whose phase advance reaches its duration ends with END: EPISODE_END is posted with its figures, those
of an OPEN episode's relays among them, and the lane waits for the next application, at once or after the gap, or after
the last one arms its watch, superseding one that is ARMED, and acts on its next slot. Before that it runs on, its stage
that of its advance, and takes the RMS voltage delivered at a cycle start into its figures. At the END of the last
application, and at no other, every lane WAITING on a CASCADE of the lane fires, and where that lane's application is of
duration 0 and its last, the lanes WAITING on a CASCADE of it fire too (R46 to R48, R54, R57, R61 to R64, R73, R132,
R133, R143). A gap ends when its own advance reaches the repeat gap (R63). That each row is the whole sample event is
the model's choice (log entry 1), and that a LATE detail of a lane that fires rests on a mark of an evaluated trigger an
inference (log entry 12). -/
def Obligations.ApplicationsAndGapsEnd : Prop :=
  ∀ (k : LaneId) (i : SampleInputs) (s : State) (ep : Episode), s.noExpiry = true → 1 ≤ s.measure.tripCount →
    State.laneRuns i s k = true → (getLane s.lanes k).current = some ep →
    ((getLane s.lanes k).state = .active →
      (ep.duration ≤ s.advanceDue k →
        ∃ t, exec (.applicationEnd k i) s = .next t ∧ exec (.sampleEvent i) s = .next t ∧
          (∀ x, t.composer.claims.governs x k = false) ∧
          posted s t (s.endRecord t false k ep) = true ∧
          (∀ j ep', State.laneRuns i s j = true → (getLane s.lanes j).state = .waiting →
            (getLane s.lanes j).current = some ep' → ep'.trigger = .cascade k →
            (s.openedState = .running → 1 ≤ ep.repeatCount → ep.repeatCount ≤ (getLane s.lanes k).application →
              s.firesIn t j ep' ∧
              (ep'.duration = 0 → ep'.repeatCount = (getLane s.lanes j).application + 1 →
                ∀ j' ep'', State.laneRuns i s j' = true → (getLane s.lanes j').state = .waiting →
                  (getLane s.lanes j').current = some ep'' → ep''.trigger = .cascade j → s.firesIn t j' ep'')) ∧
            (s.openedState ≠ .running ∨ ep.repeatCount = 0 ∨ (getLane s.lanes k).application < ep.repeatCount →
              (getLane t.lanes j).state = .waiting ∧
                (getLane t.lanes j).application = (getLane s.lanes j).application)) ∧
          s.endsIn t k ep (getLane s.lanes k).application (getLane s.lanes k).iref) ∧
      (s.advanceDue k < ep.duration →
        ∃ t, exec (.sampleEvent i) s = .next t ∧
          (let l := getLane s.lanes k
           let m := getLane t.lanes k
           m.state = .active ∧ m.current = some ep ∧ m.application = l.application ∧ m.iref = l.iref ∧
             m.start = l.start ∧ m.advance = l.advance + BitVec.ofNat 64 s.incrementDue ∧
             m.stage = some (if s.advanceDue k < ep.entry then .entry
               else if s.advanceDue k < ep.duration - ep.exit then .hold else .exit) ∧
             (m.rmsMin, m.rmsMax) = s.rmsDue t k ep))) ∧
    ((getLane s.lanes k).state = .gap →
      (ep.repeatGap ≤ s.advanceDue k →
        ∃ t, exec (.gapEnd k i) s = .next t ∧ exec (.sampleEvent i) s = .next t ∧
          (getLane t.lanes k).state = .waiting ∧ (getLane t.lanes k).current = some ep ∧
          (getLane t.lanes k).evaluationMark = false ∧
          (getLane t.lanes k).application = (getLane s.lanes k).application) ∧
      (s.advanceDue k < ep.repeatGap →
        ∃ t, exec (.sampleEvent i) s = .next t ∧ (getLane t.lanes k).state = .gap ∧
          (getLane t.lanes k).current = some ep ∧
          (getLane t.lanes k).advance = (getLane s.lanes k).advance + BitVec.ofNat 64 s.incrementDue))

/-- A LEVEL application's working values (R57, R58): at the trigger sample the stage is that of an advance of 0, with
the last composed levels as start values; after it, ENTRY leads from the start value to the target, HOLD keeps the
target, and EXIT leads from the exit origin, the envelope of the sample before its first or the target where EXIT begins
at the trigger sample, toward the steady level. A phase outside the mask holds 0. -/
def Obligations.LevelWorkingValuesFollowTheRamps : Prop :=
  ∀ (k : LaneId) (i : SampleInputs) (s : State) (ep : Episode) (target : Nat), s.noExpiry = true →
    1 ≤ s.measure.tripCount → State.laneRuns i s k = true → (getLane s.lanes k).current = some ep →
    ep.kind = .level target →
    ∃ t, exec (.sampleEvent i) s = .next t ∧
      (let l := getLane s.lanes k
       let m := getLane t.lanes k
       (l.state = .active → s.advanceDue k < ep.duration →
         m.state = .active ∧ m.current = some ep ∧ m.start = l.start ∧
         (s.advanceDue k < ep.entry → m.stage = some .entry ∧
           ∀ x, getPhase m.envelope x = if getPhase ep.mask x then
             getPhase l.start x + Int.tdiv ((target - getPhase l.start x) * s.advanceDue k) ep.entry else 0) ∧
         (ep.entry ≤ s.advanceDue k → s.advanceDue k < ep.duration - ep.exit → m.stage = some .hold ∧
           ∀ x, getPhase m.envelope x = if getPhase ep.mask x then (target : Int) else 0) ∧
         (ep.entry ≤ s.advanceDue k → ep.duration - ep.exit ≤ s.advanceDue k → m.stage = some .exit ∧
           m.exitOrigin = (if l.stage = some .exit then l.exitOrigin else l.envelope) ∧
           ∀ x, getPhase m.envelope x = if getPhase ep.mask x then
             getPhase m.exitOrigin x + Int.tdiv ((getPhase s.composer.steady x - getPhase m.exitOrigin x) *
               (s.advanceDue k - (ep.duration - ep.exit) : Nat)) ep.exit else 0)) ∧
       (l.state = .waiting → m.state = .active →
         m.current = some ep ∧
         (∀ x, getPhase m.start x = if getPhase ep.mask x then getPhase s.composer.lastComposed x else 0) ∧
         (0 < ep.entry → m.stage = some .entry ∧ m.envelope = m.start) ∧
         (ep.entry = 0 → ep.exit < ep.duration → m.stage = some .hold ∧
           ∀ x, getPhase m.envelope x = if getPhase ep.mask x then (target : Int) else 0) ∧
         (ep.entry = 0 → ep.duration ≤ ep.exit → m.stage = some .exit ∧
           ∀ x, getPhase m.envelope x = if getPhase ep.mask x then (target : Int) else 0)))

/-- A FLICKER application counts samples: at the trigger sample the factor is 10 000 + d and the countdown the change
interval; at the sample event at which the countdown reaches 0 the factor changes to the other of 10 000 + d and 10 000
− d and the countdown starts again; before it, only the countdown falls (R59). That the row is the whole sample event is
the model's choice (log entry 1). -/
def Obligations.FlickerFactorAlternates : Prop :=
  ∀ (k : LaneId) (i : SampleInputs) (s : State) (ep : Episode) (depth rate interval : Nat), s.noExpiry = true →
    1 ≤ s.measure.tripCount → State.laneRuns i s k = true → (getLane s.lanes k).current = some ep →
    ep.kind = .flicker depth rate interval →
    ((getLane s.lanes k).state = .waiting →
      ∃ t, exec (.sampleEvent i) s = .next t ∧ ((getLane t.lanes k).state = .active →
        (getLane t.lanes k).factor = 10000 + depth ∧ (getLane t.lanes k).countdown = interval)) ∧
    ((getLane s.lanes k).state = .active → s.advanceDue k < ep.duration →
      ((getLane s.lanes k).countdown ≤ 1 →
        ∃ t, exec (.flickerChange k i) s = .next t ∧ exec (.sampleEvent i) s = .next t ∧
          (getLane t.lanes k).state = .active ∧ (getLane t.lanes k).countdown = interval ∧
          ((getLane s.lanes k).factor = 10000 + depth → (getLane t.lanes k).factor = 10000 - depth) ∧
          ((getLane s.lanes k).factor ≠ 10000 + depth → (getLane t.lanes k).factor = 10000 + depth)) ∧
      (2 ≤ (getLane s.lanes k).countdown →
        ∃ t, exec (.sampleEvent i) s = .next t ∧ (getLane t.lanes k).state = .active ∧
          (getLane t.lanes k).countdown + 1 = (getLane s.lanes k).countdown ∧
          (getLane t.lanes k).factor = (getLane s.lanes k).factor))

/-- A watch at a cycle start: it counts the cycle, ends RECOVERED with the run start when the in-band run reaches the
hold, else NOT_RECOVERED when the count reaches the limit, and else goes on (R144, R146). At a trip or fault the slot
counts the cycle where the order taken puts the cycle first (R145). That the rows are the whole sample event is the
model's choice (log entry 1). -/
def Obligations.WatchesEndAtCycleStarts : Prop :=
  ∀ (k : LaneId) (i : SampleInputs) (s : State), s.rstLow = false → s.noExpiry = true → 1 ≤ s.measure.tripCount →
    (getLane s.watches k).armed = true → s.cycleStartDue = true → s.releaseDue = false →
    (s.unprotected i = true ∨ getLane i.watchFirst k = true) →
    ∃ t, exec (.sampleEvent i) s = .next t ∧
      (let w := getLane s.watches k
       let current := getPhase t.measure.figures.rmsI w.reference
       let inBand : Nat := if |(current : Int) - w.iref| * 100 ≤ w.part.band * w.iref then w.inBand + 1 else 0
       let runStart := if inBand = 1 then w.cycles + 1 else w.runStart
       let quiet := (getLane s.lanes k).state ≠ .active ∧ (getLane s.lanes k).state ≠ .waiting
       (w.part.hold ≤ inBand → 1 ≤ w.part.hold →
         exec (.recovered k i) s = .next t ∧ (quiet → (getLane t.watches k).armed = false) ∧
           posted s t (t.record (some k) (BitVec.ofNat 16 w.episode)
             (.watchResult .recovered (BitVec.ofNat 16 runStart) (BitVec.ofNat 16 current)
               (BitVec.ofNat 16 w.iref))) = true) ∧
       (inBand < w.part.hold → w.part.limit ≤ w.cycles + 1 →
         exec (.notRecovered k i) s = .next t ∧ (quiet → (getLane t.watches k).armed = false) ∧
           posted s t (t.record (some k) (BitVec.ofNat 16 w.episode)
             (.watchResult .notRecovered (BitVec.ofNat 16 (w.cycles + 1)) (BitVec.ofNat 16 current)
               (BitVec.ofNat 16 w.iref))) = true) ∧
       (inBand < w.part.hold → w.cycles + 1 < w.part.limit → quiet → s.unprotected i = true →
         (getLane t.watches k).armed = true ∧ (getLane t.watches k).cycles = w.cycles + 1 ∧
           (getLane t.watches k).inBand = inBand ∧ (getLane t.watches k).lastRms = some current ∧
           (1 ≤ inBand → (getLane t.watches k).runStart = runStart)))

/-! ### Ramps, relays, summaries and the marker at a sample event -/

/-- The soft-start envelope rises from 0 to the steady level, and soft-start is complete at the first sample event of
SOFTSTART at which its advance reaches the length, RUNNING being then due; the release envelope falls from its origin to
0, and the ramp is complete when its advance reaches its length, or at once from CLOSING, the relays being then
commanded open (R76, R78 to R81, R153). That the rows are the whole sample event is the model's choice (log entry 1). -/
def Obligations.RampsComplete : Prop :=
  ∀ (i : SampleInputs) (s : State), s.rstLow = false → s.noExpiry = true → 1 ≤ s.measure.tripCount →
    s.unprotected i = true →
    (s.openedState = .softstart →
      let advance := if s.control.progress = .softstart then 0 else s.composer.softAdvance + s.incrementDue
      ∃ t, exec (.sampleEvent i) s = .next t ∧ t.composer.softAdvance = advance ∧
        (∀ x, lowestLane (getPhase t.composer.claims.level x) = none → present s.control.mode x = true →
          getPhase t.composer.lastComposed x =
            Int.ofNat (if advance * 3600 / 2 ^ 32 < s.composer.softLength then
              getPhase s.composer.steady x * (advance * 3600 / 2 ^ 32) / s.composer.softLength
             else getPhase s.composer.steady x)) ∧
        (s.composer.softLength ≤ advance * 3600 / 2 ^ 32 →
          exec (.softstartComplete i) s = .next t ∧ t.control.progress = .running) ∧
        (advance * 3600 / 2 ^ 32 < s.composer.softLength → t.control.progress = .none)) ∧
    (s.openedState = .releasing → s.releaseDue = false → s.composer.rampRunning = true →
      let advance := s.composer.releaseAdvance + s.incrementDue
      ∃ t, exec (.sampleEvent i) s = .next t ∧ t.composer.releaseAdvance = advance ∧
        (s.composer.releaseLength ≤ advance * 3600 / 2 ^ 32 →
          exec (.releaseRampComplete i) s = .next t ∧ t.composer.rampComplete = true ∧
            t.composer.rampRunning = false ∧
            ∀ x, getPhase t.composer.closeCommand x = false ∧
              (lowestLane (getPhase t.composer.claims.level x) = none →
                getPhase t.composer.lastComposed x = 0) ∧
              (present s.control.mode x = true → (getPhase s.relays.relay x).state = .closed →
                getPhase t.relays.relay x =
                  { state := .opening, remaining := s.relays.openTime, openSpan := 0 })) ∧
        (advance * 3600 / 2 ^ 32 < s.composer.releaseLength →
          t.composer.rampRunning = true ∧ t.composer.rampComplete = s.composer.rampComplete ∧
            ∀ x, lowestLane (getPhase t.composer.claims.level x) = none → present s.control.mode x = true →
              getPhase t.composer.lastComposed x = getPhase s.composer.releaseOrigin x +
                Int.tdiv (-getPhase s.composer.releaseOrigin x * (advance * 3600 / 2 ^ 32 : Nat))
                  s.composer.releaseLength)) ∧
    (s.releaseDue = true → s.enteredState = .closing →
      ∃ t, exec (.sampleEvent i) s = .next t ∧ exec (.releaseRampComplete i) s = .next t ∧
        t.composer.rampComplete = true)

/-- The claims, the composed levels and the relay commands of a sample event. The sets hold the ACTIVE lanes with an
episode of their kind, on the phases of its mask (R72, R73). The lowest lane of a phase's LEVEL set gives its envelope,
or 0 for an OPEN episode, and with the set empty the engine state gives the default; an absent phase has 0 (R74, R76,
R78 to R80). The command is open for an OPEN owner and close otherwise in CLOSING, SOFTSTART and RUNNING, the command
held before while a release ramp runs, and open in every other case (R81). -/
def Obligations.LevelsAndRelayCommandsFollowTheOwner : Prop :=
  ∀ (i : SampleInputs) (s : State), s.rstLow = false → s.noExpiry = true →
    ∃ t, exec (.sampleEvent i) s = .next t ∧
      (let holds (k : LaneId) (p : Episode → Prop) : Prop :=
        (getLane t.lanes k).state = .active ∧ ∃ ep, (getLane t.lanes k).current = some ep ∧ p ep
       (∀ x k,
         (getLane (getPhase t.composer.claims.level x) k = true ↔ holds k fun ep =>
           getPhase ep.mask x = true ∧ (ep.kind = .openCircuit ∨ ∃ target, ep.kind = .level target)) ∧
         (getLane (getPhase t.composer.claims.shape x) k = true ↔ holds k fun ep =>
           getPhase ep.mask x = true ∧ ∃ j, ep.kind = .shape j) ∧
         (getLane (getPhase t.composer.claims.flicker x) k = true ↔ holds k fun ep =>
           getPhase ep.mask x = true ∧ ∃ d r n, ep.kind = .flicker d r n) ∧
         (getLane (getPhase t.composer.claims.jump x) k = true ↔ holds k fun ep =>
           getPhase ep.mask x = true ∧ ∃ u o, ep.kind = .jump u o) ∧
         (getLane t.composer.claims.freq k = true ↔ holds k fun ep => ∃ f slew, ep.kind = .freq f slew)) ∧
       ∀ x,
        (present s.control.mode x = false →
          getPhase t.composer.lastComposed x = 0 ∧ getPhase t.composer.closeCommand x = false) ∧
        (present s.control.mode x = true →
          (∀ k ep, getLane (getPhase t.composer.claims.level x) k = true →
            (∀ j, laneNumber j < laneNumber k → getLane (getPhase t.composer.claims.level x) j = false) →
            (getLane t.lanes k).current = some ep →
            getPhase t.composer.lastComposed x =
                (if ep.kind = .openCircuit then 0 else getPhase (getLane t.lanes k).envelope x) ∧
              (t.control.engine ∈ [EngineState.closing, .softstart, .running] →
                getPhase t.composer.closeCommand x = !decide (ep.kind = .openCircuit))) ∧
          ((∀ k, getLane (getPhase t.composer.claims.level x) k = false) →
            getPhase t.composer.lastComposed x = (match t.control.engine with
              | .softstart =>
                let a := t.composer.softAdvance * 3600 / 2 ^ 32
                if a < t.composer.softLength then
                  Int.ofNat (getPhase t.composer.steady x * a / t.composer.softLength)
                else Int.ofNat (getPhase t.composer.steady x)
              | .running => Int.ofNat (getPhase t.composer.steady x)
              | .releasing =>
                let b := t.composer.releaseAdvance * 3600 / 2 ^ 32
                if b < t.composer.releaseLength then
                  getPhase t.composer.releaseOrigin x +
                    Int.tdiv (-getPhase t.composer.releaseOrigin x * b) t.composer.releaseLength
                else 0
              | _ => 0) ∧
            (t.control.engine ∈ [EngineState.closing, .softstart, .running] →
              getPhase t.composer.closeCommand x = true) ∧
            (t.control.engine = .releasing → getPhase t.composer.closeCommand x =
              (!t.composer.rampComplete && getPhase s.composer.closeCommand x))) ∧
          (t.control.engine ∈ [EngineState.standby, .loading, .tripped, .faulted] →
            getPhase t.composer.closeCommand x = false)))

/-- The code of a live sample, and the clip counts. In SOFTSTART, RUNNING and RELEASING the frame formed at a sample
event holds, for each present phase, the arithmetic of CompositeWaveformArithmetic and CodeArithmetic on what stands for
that sample: the angle with the JUMP owner's offset (R97, R107), the SHAPE owner's components, the FLICKER owner's
factor (R74, R75), the composed level, or 0 where the relay is not CLOSED, its state taken as the driver's work leaves
it or found it (R82), the nominal peak code and the ceiling (R109 to R112, R117). A clamped code adds 1 to the phase's
cycle clip count, which a cycle start and a restart begin anew (R113), and 1 to the clip count of each application in a
set of the phase or in the FREQ set, counted from 0 at the trigger sample (R61, R114). In every other state, and for an
absent phase, the code is 0 and no clamp counts (R115, R116). -/
def Obligations.LiveCodesFollowTheOwners : Prop :=
  ∀ (i : SampleInputs) (s : State), s.rstLow = false → s.noExpiry = true →
    ∃ t, exec (.sampleEvent i) s = .next t ∧
      (let live : Prop := t.control.engine ∈ [EngineState.softstart, .running, .releasing]
       let code (x : Phase) : Int := getPhase (if s.link.writesBuffer1 then t.link.buffer1 else t.link.buffer0) x
       let owner (set : PerLane Bool) : Option Lane := (lowestLane set).map (getLane t.lanes)
       let jump (x : Phase) : Word := match (owner (getPhase t.composer.claims.jump x)).bind Lane.current with
         | some ep =>
           match ep.kind with
           | .jump _ offset => offset
           | _ => 0
         | none => 0
       let list (x : Phase) : List Component :=
         match (owner (getPhase t.composer.claims.shape x)).bind Lane.current with
         | some ep => ep.components
         | none => []
       let factor (x : Phase) : Nat := match owner (getPhase t.composer.claims.flicker x) with
         | some l => l.factor
         | none => 10000
       let closed (x : Phase) : Prop :=
         (getPhase (if getPhase i.relayBefore x then s.relays.relay else t.relays.relay) x).state = .closed
       let raw (x : Phase) : Int := scaled
         (modulated (composite (t.timebase.theta + getPhase t.timebase.offsets x + jump x) (list x))
           (if closed x then getPhase t.composer.lastComposed x else 0) (factor x)) (getPhase s.synth.peak x)
       let clamped (x : Phase) : Prop :=
         present s.control.mode x = true ∧ live ∧ (raw x < -(s.synth.ceiling : Int) ∨ (s.synth.ceiling : Int) < raw x)
       let clamps (k : LaneId) : Nat :=
         (if clamped .A ∧ t.composer.claims.governs .A k = true then 1 else 0) +
           (if clamped .B ∧ t.composer.claims.governs .B k = true then 1 else 0) +
           (if clamped .C ∧ t.composer.claims.governs .C k = true then 1 else 0)
       (∀ x, code x = (if present s.control.mode x = true ∧ live then
           max (-(s.synth.ceiling : Int)) (min s.synth.ceiling (raw x)) else 0) ∧
         getPhase t.synth.cycleClips x =
           (if s.cycleStartDue = true ∨ s.timebase.restartDue ≠ .none then 0 else getPhase s.synth.cycleClips x) +
             (if clamped x then 1 else 0)) ∧
       ∀ k,
         ((getLane s.lanes k).state = .active → (getLane t.lanes k).state = .active →
           (getLane t.lanes k).clips = min ((getLane s.lanes k).clips + clamps k) 4294967295) ∧
         ((getLane s.lanes k).state = .waiting → (getLane t.lanes k).state = .active →
           (getLane t.lanes k).clips = clamps k))

/-- One relay at a sample event: the counters advance, an operation whose time runs out completes, and the command of
the sample event then begins an operation, holds the relay, or leaves one in progress to run, which a trip or fault
turns from CLOSING to OPENING; the relay of an absent phase is left alone (R126, R128 to R130). That the row is the
whole sample event is the model's choice (log entry 1). -/
def Obligations.RelaysFollowTheirCommands : Prop :=
  ∀ (x : Phase) (i : SampleInputs) (s : State), s.rstLow = false → s.noExpiry = true → 1 ≤ s.measure.tripCount →
    ∃ t, exec (.sampleEvent i) s = .next t ∧
      (let r := getPhase s.relays.relay x
       let close := getPhase t.composer.closeCommand x
       let span := min (r.openSpan + 1) 4294967295
       let toClosing (open' : Nat) : Relay := { state := .closing, remaining := s.relays.closeTime, openSpan := open' }
       let toOpening : Relay := { state := .opening, remaining := s.relays.openTime, openSpan := 0 }
       (present s.control.mode x = false → getPhase t.relays.relay x = r) ∧
       (present s.control.mode x = true →
         (r.state = .opened →
           getPhase t.relays.relay x = if close then toClosing span else { r with openSpan := span }) ∧
         (r.state = .closed → getPhase t.relays.relay x = if close then r else toOpening) ∧
         (r.state = .closing → r.remaining ≤ 1 →
           exec (.relayOperationComplete x i) s = .next t ∧
             getPhase t.relays.relay x = if close then { r with state := .closed, remaining := 0 } else toOpening) ∧
         (r.state = .closing → 2 ≤ r.remaining → s.unprotected i = true →
           getPhase t.relays.relay x = { r with remaining := r.remaining - 1 }) ∧
         (r.state = .closing → 2 ≤ r.remaining → s.unprotected i = false → getPhase t.relays.relay x = toOpening) ∧
         (r.state = .opening → r.remaining ≤ 1 →
           exec (.relayOperationComplete x i) s = .next t ∧
             getPhase t.relays.relay x =
               if close then toClosing span else { state := .opened, remaining := 0, openSpan := span }) ∧
         (r.state = .opening → 2 ≤ r.remaining →
           getPhase t.relays.relay x = { state := .opening, remaining := r.remaining - 1, openSpan := span })))

/-- A cycle start in RUNNING counts toward the summary period; when the count reaches it the summary of the delivered
figures is posted and the count is 0, and a cycle start in another state sets the count to 0 (R140). That the state
counted by is that of the opening, even at a protection, is an inference (log entry 15), and that the row is the whole
sample event the model's choice (log entry 1). -/
def Obligations.CycleSummaryIsPosted : Prop :=
  ∀ (i : SampleInputs) (s : State), s.rstLow = false → s.noExpiry = true → s.cycleStartDue = true →
    ∃ t, exec (.sampleEvent i) s = .next t ∧
      (s.openedState = .running → 1 ≤ s.measure.summaryPeriod →
        s.measure.summaryPeriod ≤ s.measure.summaryCounter + 1 →
        exec (.cycleSummary i) s = .next t ∧ t.measure.summaryCounter = 0 ∧
          posted s t (t.record none 0xFFFF (.cycleSummary
            (tabPhase fun x => decide (1 ≤ getPhase s.synth.cycleClips x))
            (tabPhase fun x => BitVec.ofNat 16 (getPhase t.measure.figures.rmsV x))
            (tabPhase fun x => BitVec.ofNat 16 (getPhase t.measure.figures.rmsI x))
            (tabPhase fun x => BitVec.ofNat 16 (getPhase s.measure.peakI x))
            (BitVec.ofNat 16 s.measure.cycleStale))) = true) ∧
      (s.openedState = .running → s.measure.summaryCounter + 1 < s.measure.summaryPeriod →
        t.measure.summaryCounter = s.measure.summaryCounter + 1) ∧
      (s.openedState ≠ .running → t.measure.summaryCounter = 0)

/-- A marker request of two sample events before raises the marker with the countdown at 4; otherwise the countdown
falls and the marker goes low when it reaches 0; a request waits one sample event on (R124). That the rows are the whole
sample event is the model's choice (log entry 1). -/
def Obligations.MarkerPulsesLastFourSamples : Prop :=
  ∀ (i : SampleInputs) (s : State), s.rstLow = false →
    ∃ t, exec (.sampleEvent i) s = .next t ∧ t.link.markerRequest2 = s.link.markerRequest1 ∧
      (s.link.markerRequest2 = true →
        exec (.markerPulseDue i) s = .next t ∧ t.link.marker = true ∧ t.link.markerCount = 4) ∧
      (s.link.markerRequest2 = false → s.link.markerCount = 1 →
        exec (.markerCountdownEnd i) s = .next t ∧ t.link.marker = false ∧ t.link.markerCount = 0) ∧
      (s.link.markerRequest2 = false → 2 ≤ s.link.markerCount →
        t.link.marker = s.link.marker ∧ t.link.markerCount + 1 = s.link.markerCount)

/-- Posting: a queue of at most 8 keeps the earliest 8 of what it holds and what is posted, in order, and every record
that does not fit is counted as a drop, the count holding at its top (R165, R167). -/
def Obligations.PostingKeepsTheEarliestEight : Prop :=
  ∀ (j : Journal) (rs : List Record), j.queue.length ≤ 8 → j.drops ≤ 4294967295 →
    (j.postAll rs).queue = (j.queue ++ rs).take 8 ∧
      (j.postAll rs).drops = min (j.drops + (j.queue.length + rs.length - 8)) 4294967295

/-- The 32 bytes of a record and the 8 words in which it is written: the head, the detail bits or code and the payload
of each kind at their offsets, multi-byte fields little-endian, and 0 in every byte that the kind does not define (R13,
R164). -/
def Obligations.RecordBytesFollowTheLayout : Prop :=
  ∀ r : Record,
    let byte (n : Nat) : Nat := (r.bytes.getD n 0).toNat
    let half (n : Nat) : Nat := byte n + 256 * byte (n + 1)
    let word (n : Nat) : Nat := half n + 65536 * half (n + 2)
    let zeroFrom (n : Nat) : Prop := ∀ m, n ≤ m → m < 32 → byte m = 0
    r.bytes.length = 32 ∧ r.words.length = 8 ∧ (∀ n, n < 8 → (r.words.getD n 0).toNat = word (4 * n)) ∧
    byte 1 = (match r.lane with
      | some k => laneNumber k
      | none => 255) ∧
    byte 2 = r.gap.toNat ∧ word 4 = r.cycle.toNat ∧ half 8 = r.sample.toNat ∧ half 10 = r.episode.toNat ∧
    match r.body with
    | .episodeStart clamped rampCut late start iref application =>
      byte 0 = 1 ∧ byte 3 = clamped.toNat + 2 * rampCut.toNat + 4 * late.toNat ∧ half 12 = start.a.toNat ∧
        half 14 = start.b.toNat ∧ half 16 = start.c.toNat ∧ half 18 = iref.toNat ∧ half 20 = application.toNat ∧
        zeroFrom 22
    | .episodeEnd cut stretched rmsMin rmsMax clips openSpan application =>
      byte 0 = 2 ∧ byte 3 = cut.toNat + 2 * stretched.toNat ∧ half 12 = rmsMin.toNat ∧ half 14 = rmsMax.toNat ∧
        word 16 = clips.toNat ∧ word 20 = openSpan.toNat ∧ half 24 = application.toNat ∧ zeroFrom 26
    | .watchResult outcome cycles lastRms iref =>
      byte 0 = 3 ∧
        (outcome, byte 3) ∈ [(WatchOutcome.recovered, 1), (.notRecovered, 2), (.noReference, 3), (.superseded, 4),
          (.abandoned, 5)] ∧
        half 12 = cycles.toNat ∧ half 14 = lastRms.toNat ∧ half 16 = iref.toNat ∧ zeroFrom 18
    | .cycleSummary clipped rmsV rmsI peakI stale =>
      byte 0 = 4 ∧ byte 3 = clipped.a.toNat + 2 * clipped.b.toNat + 4 * clipped.c.toNat ∧
        half 12 = rmsV.a.toNat ∧ half 14 = rmsV.b.toNat ∧ half 16 = rmsV.c.toNat ∧
        half 18 = rmsI.a.toNat ∧ half 20 = rmsI.b.toNat ∧ half 22 = rmsI.c.toNat ∧
        half 24 = peakI.a.toNat ∧ half 26 = peakI.b.toNat ∧ half 28 = peakI.c.toNat ∧ half 30 = stale.toNat
    | .planRefused cause offending =>
      byte 0 = 5 ∧
        (cause, byte 3) ∈ [(Refused.unknownKind, 1), (.emptyMask, 2), (.badTrigger, 3), (.indexRange, 4),
          (.badShape, 5), (.cueCount, 6), (.bus, 7), (.stopped, 8)] ∧
        half 12 = offending.toNat ∧ zeroFrom 14
    | .laneHalted cause =>
      byte 0 = 6 ∧
        (cause, byte 3) ∈ [(Refused.unknownKind, 1), (.emptyMask, 2), (.badTrigger, 3), (.indexRange, 4),
          (.badShape, 5), (.cueCount, 6), (.bus, 7), (.stopped, 8)] ∧
        zeroFrom 12
    | .engine cause newState reason phase peak =>
      byte 0 = 7 ∧
        (cause, byte 3) ∈ [(EngineCause.start, 1), (.loaded, 2), (.startRefused, 3), (.closed, 4), (.softstartDone, 5),
          (.release, 6), (.released, 7), (.trip, 8), (.fault, 9), (.measLost, 10), (.clear, 11)] ∧
        (newState, byte 12) ∈ [(EngineState.standby, 0), (.loading, 1), (.closing, 2), (.softstart, 3), (.running, 4),
          (.releasing, 5), (.tripped, 6), (.faulted, 7)] ∧
        (reason, byte 13) ∈ [(RefusalReason.none, 0), (.notReady, 1), (.bus, 2)] ∧
        (phase, byte 14) ∈ [(some Phase.A, 0), (some .B, 1), (some .C, 2), (none, 255)] ∧
        byte 15 = 0 ∧ half 16 = peak.toNat ∧ zeroFrom 18
    | .marker tag => byte 0 = 8 ∧ byte 3 = 0 ∧ half 12 = tag.toNat ∧ zeroFrom 14

/-! ### Arithmetic -/

/-- The sine table's symmetries and the entries that the manual lists (R105); the lookup with linear interpolation, the
floor rounding down, and its range (R106); the angle of a component
(R107); its term truncated toward zero and its bound (R108); and the composite value as an exact sum that the order of
the list does not change (R108, R109). -/
def Obligations.CompositeWaveformArithmetic : Prop :=
  (sineTable.length = 1024 ∧
    (∀ k, k ≤ 512 → sineTable.getD (512 - k) 0 = sineTable.getD k 0) ∧
    (∀ k, k ≤ 511 → sineTable.getD (512 + k) 0 = -sineTable.getD k 0) ∧
    ∀ e ∈ [(0, 0), (1, 804), (2, 1608), (3, 2413), (128, 92681), (254, 131061), (255, 131069), (256, 131071),
        (258, 131061), (384, 92681), (512, 0), (640, -92681), (768, -131071), (896, -92681), (1022, -1608),
        (1023, -804)],
      sineTable.getD e.1 0 = e.2) ∧
  (∀ a : Word,
    let i : Nat := a.toNat / 2 ^ 22
    let r : Nat := a.toNat / 2 ^ 10 % 4096
    let low := sineTable.getD i 0
    let high := sineTable.getD ((i + 1) % 1024) 0
    i < 1024 ∧ 4096 * (sineOf a - low) ≤ (high - low) * r ∧ (high - low) * r < 4096 * (sineOf a - low + 1) ∧
      min low high ≤ sineOf a ∧ sineOf a ≤ max low high ∧ |sineOf a| ≤ 131071 ∧
      sineOf 0x40000000 = 131071 ∧ sineOf 0xC0000000 = -131071) ∧
  (∀ (phi : Word) (c : Component), c.amplitude ≤ 3000 →
    componentAngle phi c = BitVec.ofNat 32 (c.order * phi.toNat + c.phase * 2 ^ 32 / 3600) ∧
      componentTerm phi c = Int.tdiv (sineOf (componentAngle phi c) * c.amplitude) 10000 ∧
      |componentTerm phi c| ≤ 39321 ∧ (c.amplitude = 0 → componentTerm phi c = 0)) ∧
  (∀ (phi : Word) (cs cs' : List Component),
    composite phi cs = sineOf phi + (cs.map (componentTerm phi)).sum ∧
      (cs.Perm cs' → composite phi cs' = composite phi cs))

/-- From the composite value to the code: level and modulation truncate toward zero, the scaling is the nearest integer,
and the ceiling limits the code and marks it clamped only beyond C (R110, R111, R112). -/
def Obligations.CodeArithmetic : Prop :=
  (∀ (w e : Int) (m : Nat), modulated w e m = Int.tdiv (w * e * m) 100000000 ∧ modulated (-w) e m = -modulated w e m ∧
    modulated w 10000 10000 = w ∧ modulated w 0 m = 0) ∧
  (∀ (v : Int) (peak : Nat), 2 * |scaled v peak * 131071 - v * peak| < 131071 ∧ scaled 131071 peak = peak ∧
    scaled (-v) peak = -scaled v peak) ∧
  (∀ (c : Nat) (code : Int),
    ((c : Int) < code → limited c code = ((c : Int), true)) ∧
      (code < -(c : Int) → limited c code = (-(c : Int), true)) ∧
      (-(c : Int) ≤ code → code ≤ c → limited c code = (code, false)))

/-- The frequency moves toward its target by at most the slew, never past it, and at once with a slew of 0; the
increment of a frequency in the run range is the nearest integer to F × 2^32 / 25 600 000, and fits 32 bits (R90, R94).
-/
def Obligations.FrequencyMovesByTheSlew : Prop :=
  (∀ f target slew : Nat,
    (slew = 0 → moveFrequency f target slew = target) ∧
    (1 ≤ slew → |(target : Int) - f| ≤ slew → moveFrequency f target slew = target) ∧
    (1 ≤ slew → (slew : Int) < target - f → moveFrequency f target slew = f + slew) ∧
    (1 ≤ slew → (target : Int) - f < -slew → moveFrequency f target slew + slew = f) ∧
    min f target ≤ moveFrequency f target slew ∧ moveFrequency f target slew ≤ max f target) ∧
  ∀ f : Nat, 2 * |(incrementOf f : Int) * 25600000 - f * 4294967296| < 25600000 ∧
    (freqInRange f → 7549747 ≤ incrementOf f ∧ incrementOf f ≤ 10905190)

/-! ### Invariants -/

/-- The part right after reset meets every invariant of a safe run. -/
def Obligations.ResetMeetsTheInvariants : Prop :=
  State.reset.BooksInOrder ∧ State.reset.FrequencyInRange ∧ State.reset.LevelsInRange ∧ State.reset.EngineAgrees

/-- Every step keeps the books: at most 8 records wait, FLAGS and MASK hold their listed bits alone, the base stays
aligned, and ALERT and NOTICE follow the set flags (R1, R165, R167, R173, R174). -/
def Obligations.BooksStayInOrder : Prop :=
  ∀ s t : State, s.BooksInOrder → step s = .next t → t.BooksInOrder

/-- Every step keeps the frequency in the run range and its increment the one it forms (R90, R94). -/
def Obligations.FrequencyStaysInRange : Prop :=
  ∀ s t : State, s.FrequencyInRange → step s = .next t → t.FrequencyInRange

/-- Every step keeps every level in 0 to 20 000 and every latched setting in its clamp (R58, R77, R80, R104, R127,
R140). -/
def Obligations.LevelsStayInRange : Prop :=
  ∀ s t : State, s.LevelsInRange → step s = .next t → t.LevelsInRange

/-- Every step keeps the lanes, the claims, the relays, the progress due and the load in agreement with the engine state
(R4, R45, R81, R149). -/
def Obligations.EngineStaysInAgreement : Prop :=
  ∀ s t : State, s.EngineAgrees → step s = .next t → t.EngineAgrees
end

