-- ==== Sys2Proof/Laws/State.lean ====
section
/-! SUPPORT. Small lemmas about State: reading back one lane's or one phase's item, and what each named update of the
state leaves alone, one lemma per field. -/

namespace Sys2Proof.Machine

/-! ### Lanes and phases -/

@[simp] theorem getLane_setLane_same {α : Type} (v : PerLane α) (k : LaneId) (x : α) :
    getLane (setLane v k x) k = x := by cases k <;> rfl

theorem getLane_setLane_of_ne {α : Type} (v : PerLane α) {j k : LaneId} (h : j ≠ k) (x : α) :
    getLane (setLane v k x) j = getLane v j := by
  cases j <;> cases k <;> first | rfl | exact absurd rfl h

@[simp] theorem getLane_tabLane {α : Type} (f : LaneId → α) (k : LaneId) : getLane (tabLane f) k = f k := by
  cases k <;> rfl

@[simp] theorem getLane_perLane {α : Type} (x : α) (k : LaneId) : getLane (perLane x) k = x := by cases k <;> rfl

theorem perLane_ext {α : Type} {u v : PerLane α} (h : ∀ k, getLane u k = getLane v k) : u = v := by
  have h0 := h .l0; have h1 := h .l1; have h2 := h .l2; have h3 := h .l3; have h4 := h .l4; have h5 := h .l5
  cases u; cases v; simp_all [getLane]

@[simp] theorem getPhase_setPhase_same {α : Type} (v : PerPhase α) (x : Phase) (y : α) :
    getPhase (setPhase v x y) x = y := by cases x <;> rfl

theorem getPhase_setPhase_of_ne {α : Type} (v : PerPhase α) {x z : Phase} (h : z ≠ x) (y : α) :
    getPhase (setPhase v x y) z = getPhase v z := by
  cases z <;> cases x <;> first | rfl | exact absurd rfl h

@[simp] theorem getPhase_tabPhase {α : Type} (f : Phase → α) (x : Phase) : getPhase (tabPhase f) x = f x := by
  cases x <;> rfl

@[simp] theorem getPhase_perPhase {α : Type} (y : α) (x : Phase) : getPhase (perPhase y) x = y := by cases x <;> rfl

theorem perPhase_ext {α : Type} {u v : PerPhase α} (h : ∀ x, getPhase u x = getPhase v x) : u = v := by
  have h0 := h .A; have h1 := h .B; have h2 := h .C
  cases u; cases v; simp_all [getPhase]

/-- Every lane is in the list of lanes. -/
theorem mem_allLanes (k : LaneId) : k ∈ allLanes := by cases k <;> decide

/-- Every phase is in the list of phases. -/
theorem mem_allPhases (x : Phase) : x ∈ allPhases := by cases x <;> decide

/-! ### Updates of the state -/

@[simp] theorem State.post_rstLow (s : State) (r : Record) : (s.post r).rstLow = s.rstLow := rfl
@[simp] theorem State.post_control (s : State) (r : Record) : (s.post r).control = s.control := rfl
@[simp] theorem State.post_port (s : State) (r : Record) : (s.post r).port = s.port := rfl
@[simp] theorem State.post_lanes (s : State) (r : Record) : (s.post r).lanes = s.lanes := rfl
@[simp] theorem State.post_previousTrig (s : State) (r : Record) : (s.post r).previousTrig = s.previousTrig := rfl
@[simp] theorem State.post_composer (s : State) (r : Record) : (s.post r).composer = s.composer := rfl
@[simp] theorem State.post_timebase (s : State) (r : Record) : (s.post r).timebase = s.timebase := rfl
@[simp] theorem State.post_synth (s : State) (r : Record) : (s.post r).synth = s.synth := rfl
@[simp] theorem State.post_link (s : State) (r : Record) : (s.post r).link = s.link := rfl
@[simp] theorem State.post_relays (s : State) (r : Record) : (s.post r).relays = s.relays := rfl
@[simp] theorem State.post_measure (s : State) (r : Record) : (s.post r).measure = s.measure := rfl
@[simp] theorem State.post_watches (s : State) (r : Record) : (s.post r).watches = s.watches := rfl
@[simp] theorem State.post_window (s : State) (r : Record) : (s.post r).window = s.window := rfl
@[simp] theorem State.post_pending (s : State) (r : Record) : (s.post r).pending = s.pending := rfl

@[simp] theorem State.setFlag_rstLow (s : State) (f : Flag) : (s.setFlag f).rstLow = s.rstLow := rfl
@[simp] theorem State.setFlag_control (s : State) (f : Flag) : (s.setFlag f).control = s.control := rfl
@[simp] theorem State.setFlag_port (s : State) (f : Flag) : (s.setFlag f).port = s.port := rfl
@[simp] theorem State.setFlag_lanes (s : State) (f : Flag) : (s.setFlag f).lanes = s.lanes := rfl
@[simp] theorem State.setFlag_previousTrig (s : State) (f : Flag) : (s.setFlag f).previousTrig = s.previousTrig := rfl
@[simp] theorem State.setFlag_composer (s : State) (f : Flag) : (s.setFlag f).composer = s.composer := rfl
@[simp] theorem State.setFlag_timebase (s : State) (f : Flag) : (s.setFlag f).timebase = s.timebase := rfl
@[simp] theorem State.setFlag_synth (s : State) (f : Flag) : (s.setFlag f).synth = s.synth := rfl
@[simp] theorem State.setFlag_link (s : State) (f : Flag) : (s.setFlag f).link = s.link := rfl
@[simp] theorem State.setFlag_relays (s : State) (f : Flag) : (s.setFlag f).relays = s.relays := rfl
@[simp] theorem State.setFlag_measure (s : State) (f : Flag) : (s.setFlag f).measure = s.measure := rfl
@[simp] theorem State.setFlag_watches (s : State) (f : Flag) : (s.setFlag f).watches = s.watches := rfl
@[simp] theorem State.setFlag_journal (s : State) (f : Flag) : (s.setFlag f).journal = s.journal := rfl
@[simp] theorem State.setFlag_pending (s : State) (f : Flag) : (s.setFlag f).pending = s.pending := rfl

@[simp] theorem State.freeSlot_rstLow (s : State) : (s.freeSlot).rstLow = s.rstLow := rfl
@[simp] theorem State.freeSlot_control (s : State) : (s.freeSlot).control = s.control := rfl
@[simp] theorem State.freeSlot_lanes (s : State) : (s.freeSlot).lanes = s.lanes := rfl
@[simp] theorem State.freeSlot_previousTrig (s : State) : (s.freeSlot).previousTrig = s.previousTrig := rfl
@[simp] theorem State.freeSlot_composer (s : State) : (s.freeSlot).composer = s.composer := rfl
@[simp] theorem State.freeSlot_timebase (s : State) : (s.freeSlot).timebase = s.timebase := rfl
@[simp] theorem State.freeSlot_synth (s : State) : (s.freeSlot).synth = s.synth := rfl
@[simp] theorem State.freeSlot_link (s : State) : (s.freeSlot).link = s.link := rfl
@[simp] theorem State.freeSlot_relays (s : State) : (s.freeSlot).relays = s.relays := rfl
@[simp] theorem State.freeSlot_measure (s : State) : (s.freeSlot).measure = s.measure := rfl
@[simp] theorem State.freeSlot_watches (s : State) : (s.freeSlot).watches = s.watches := rfl
@[simp] theorem State.freeSlot_journal (s : State) : (s.freeSlot).journal = s.journal := rfl
@[simp] theorem State.freeSlot_window (s : State) : (s.freeSlot).window = s.window := rfl
@[simp] theorem State.freeSlot_pending (s : State) : (s.freeSlot).pending = s.pending := rfl

@[simp] theorem State.withLane_rstLow (s : State) (k : LaneId) (o : LaneOut) : (s.withLane k o).rstLow = s.rstLow := rfl
@[simp] theorem State.withLane_control (s : State) (k : LaneId) (o : LaneOut) : (s.withLane k o).control = s.control := rfl
@[simp] theorem State.withLane_port (s : State) (k : LaneId) (o : LaneOut) : (s.withLane k o).port = s.port := rfl
@[simp] theorem State.withLane_previousTrig (s : State) (k : LaneId) (o : LaneOut) : (s.withLane k o).previousTrig = s.previousTrig := rfl
@[simp] theorem State.withLane_composer (s : State) (k : LaneId) (o : LaneOut) : (s.withLane k o).composer = s.composer := rfl
@[simp] theorem State.withLane_timebase (s : State) (k : LaneId) (o : LaneOut) : (s.withLane k o).timebase = s.timebase := rfl
@[simp] theorem State.withLane_synth (s : State) (k : LaneId) (o : LaneOut) : (s.withLane k o).synth = s.synth := rfl
@[simp] theorem State.withLane_link (s : State) (k : LaneId) (o : LaneOut) : (s.withLane k o).link = s.link := rfl
@[simp] theorem State.withLane_relays (s : State) (k : LaneId) (o : LaneOut) : (s.withLane k o).relays = s.relays := rfl
@[simp] theorem State.withLane_measure (s : State) (k : LaneId) (o : LaneOut) : (s.withLane k o).measure = s.measure := rfl
@[simp] theorem State.withLane_watches (s : State) (k : LaneId) (o : LaneOut) : (s.withLane k o).watches = s.watches := rfl
@[simp] theorem State.withLane_pending (s : State) (k : LaneId) (o : LaneOut) : (s.withLane k o).pending = s.pending := rfl

@[simp] theorem State.runLane_rstLow (s : State) (k : LaneId) (f : LaneEnv → Lane → LaneOut) : (s.runLane k f).rstLow = s.rstLow := rfl
@[simp] theorem State.runLane_control (s : State) (k : LaneId) (f : LaneEnv → Lane → LaneOut) : (s.runLane k f).control = s.control := rfl
@[simp] theorem State.runLane_port (s : State) (k : LaneId) (f : LaneEnv → Lane → LaneOut) : (s.runLane k f).port = s.port := rfl
@[simp] theorem State.runLane_previousTrig (s : State) (k : LaneId) (f : LaneEnv → Lane → LaneOut) : (s.runLane k f).previousTrig = s.previousTrig := rfl
@[simp] theorem State.runLane_composer (s : State) (k : LaneId) (f : LaneEnv → Lane → LaneOut) : (s.runLane k f).composer = s.composer := rfl
@[simp] theorem State.runLane_timebase (s : State) (k : LaneId) (f : LaneEnv → Lane → LaneOut) : (s.runLane k f).timebase = s.timebase := rfl
@[simp] theorem State.runLane_synth (s : State) (k : LaneId) (f : LaneEnv → Lane → LaneOut) : (s.runLane k f).synth = s.synth := rfl
@[simp] theorem State.runLane_link (s : State) (k : LaneId) (f : LaneEnv → Lane → LaneOut) : (s.runLane k f).link = s.link := rfl
@[simp] theorem State.runLane_relays (s : State) (k : LaneId) (f : LaneEnv → Lane → LaneOut) : (s.runLane k f).relays = s.relays := rfl
@[simp] theorem State.runLane_measure (s : State) (k : LaneId) (f : LaneEnv → Lane → LaneOut) : (s.runLane k f).measure = s.measure := rfl
@[simp] theorem State.runLane_watches (s : State) (k : LaneId) (f : LaneEnv → Lane → LaneOut) : (s.runLane k f).watches = s.watches := rfl
@[simp] theorem State.runLane_pending (s : State) (k : LaneId) (f : LaneEnv → Lane → LaneOut) : (s.runLane k f).pending = s.pending := rfl

@[simp] theorem State.cueTests_rstLow (s : State) : (s.cueTests).rstLow = s.rstLow := by simp [State.cueTests, allLanes]
@[simp] theorem State.cueTests_control (s : State) : (s.cueTests).control = s.control := by simp [State.cueTests, allLanes]
@[simp] theorem State.cueTests_port (s : State) : (s.cueTests).port = s.port := by simp [State.cueTests, allLanes]
@[simp] theorem State.cueTests_previousTrig (s : State) : (s.cueTests).previousTrig = s.previousTrig := by simp [State.cueTests, allLanes]
@[simp] theorem State.cueTests_composer (s : State) : (s.cueTests).composer = s.composer := by simp [State.cueTests, allLanes]
@[simp] theorem State.cueTests_timebase (s : State) : (s.cueTests).timebase = s.timebase := by simp [State.cueTests, allLanes]
@[simp] theorem State.cueTests_synth (s : State) : (s.cueTests).synth = s.synth := by simp [State.cueTests, allLanes]
@[simp] theorem State.cueTests_link (s : State) : (s.cueTests).link = s.link := by simp [State.cueTests, allLanes]
@[simp] theorem State.cueTests_relays (s : State) : (s.cueTests).relays = s.relays := by simp [State.cueTests, allLanes]
@[simp] theorem State.cueTests_measure (s : State) : (s.cueTests).measure = s.measure := by simp [State.cueTests, allLanes]
@[simp] theorem State.cueTests_watches (s : State) : (s.cueTests).watches = s.watches := by simp [State.cueTests, allLanes]
@[simp] theorem State.cueTests_pending (s : State) : (s.cueTests).pending = s.pending := by simp [State.cueTests, allLanes]

@[simp] theorem State.scanDone_rstLow (s : State) (ws : Vector Word 7) : (s.scanDone ws).rstLow = s.rstLow := by simp [State.scanDone]
@[simp] theorem State.scanDone_control (s : State) (ws : Vector Word 7) : (s.scanDone ws).control = s.control := by simp [State.scanDone]
@[simp] theorem State.scanDone_previousTrig (s : State) (ws : Vector Word 7) : (s.scanDone ws).previousTrig = s.previousTrig := by simp [State.scanDone]
@[simp] theorem State.scanDone_composer (s : State) (ws : Vector Word 7) : (s.scanDone ws).composer = s.composer := by simp [State.scanDone]
@[simp] theorem State.scanDone_timebase (s : State) (ws : Vector Word 7) : (s.scanDone ws).timebase = s.timebase := by simp [State.scanDone]
@[simp] theorem State.scanDone_synth (s : State) (ws : Vector Word 7) : (s.scanDone ws).synth = s.synth := by simp [State.scanDone]
@[simp] theorem State.scanDone_link (s : State) (ws : Vector Word 7) : (s.scanDone ws).link = s.link := by simp [State.scanDone]
@[simp] theorem State.scanDone_relays (s : State) (ws : Vector Word 7) : (s.scanDone ws).relays = s.relays := by simp [State.scanDone]
@[simp] theorem State.scanDone_measure (s : State) (ws : Vector Word 7) : (s.scanDone ws).measure = s.measure := by simp [State.scanDone]
@[simp] theorem State.scanDone_watches (s : State) (ws : Vector Word 7) : (s.scanDone ws).watches = s.watches := by simp [State.scanDone]
@[simp] theorem State.scanDone_pending (s : State) (ws : Vector Word 7) : (s.scanDone ws).pending = s.pending := by simp [State.scanDone]

@[simp] theorem State.takenDone_rstLow (s : State) (k : LaneId) (v : Word) : (s.takenDone k v).rstLow = s.rstLow := rfl
@[simp] theorem State.takenDone_control (s : State) (k : LaneId) (v : Word) : (s.takenDone k v).control = s.control := rfl
@[simp] theorem State.takenDone_lanes (s : State) (k : LaneId) (v : Word) : (s.takenDone k v).lanes = s.lanes := rfl
@[simp] theorem State.takenDone_previousTrig (s : State) (k : LaneId) (v : Word) : (s.takenDone k v).previousTrig = s.previousTrig := rfl
@[simp] theorem State.takenDone_composer (s : State) (k : LaneId) (v : Word) : (s.takenDone k v).composer = s.composer := rfl
@[simp] theorem State.takenDone_timebase (s : State) (k : LaneId) (v : Word) : (s.takenDone k v).timebase = s.timebase := rfl
@[simp] theorem State.takenDone_synth (s : State) (k : LaneId) (v : Word) : (s.takenDone k v).synth = s.synth := rfl
@[simp] theorem State.takenDone_link (s : State) (k : LaneId) (v : Word) : (s.takenDone k v).link = s.link := rfl
@[simp] theorem State.takenDone_relays (s : State) (k : LaneId) (v : Word) : (s.takenDone k v).relays = s.relays := rfl
@[simp] theorem State.takenDone_measure (s : State) (k : LaneId) (v : Word) : (s.takenDone k v).measure = s.measure := rfl
@[simp] theorem State.takenDone_watches (s : State) (k : LaneId) (v : Word) : (s.takenDone k v).watches = s.watches := rfl
@[simp] theorem State.takenDone_journal (s : State) (k : LaneId) (v : Word) : (s.takenDone k v).journal = s.journal := rfl
@[simp] theorem State.takenDone_window (s : State) (k : LaneId) (v : Word) : (s.takenDone k v).window = s.window := rfl
@[simp] theorem State.takenDone_pending (s : State) (k : LaneId) (v : Word) : (s.takenDone k v).pending = s.pending := rfl

@[simp] theorem State.recordDone_rstLow (s : State) (b : Word) (d : Nat) : (s.recordDone b d).rstLow = s.rstLow := rfl
@[simp] theorem State.recordDone_control (s : State) (b : Word) (d : Nat) : (s.recordDone b d).control = s.control := rfl
@[simp] theorem State.recordDone_lanes (s : State) (b : Word) (d : Nat) : (s.recordDone b d).lanes = s.lanes := rfl
@[simp] theorem State.recordDone_previousTrig (s : State) (b : Word) (d : Nat) : (s.recordDone b d).previousTrig = s.previousTrig := rfl
@[simp] theorem State.recordDone_composer (s : State) (b : Word) (d : Nat) : (s.recordDone b d).composer = s.composer := rfl
@[simp] theorem State.recordDone_timebase (s : State) (b : Word) (d : Nat) : (s.recordDone b d).timebase = s.timebase := rfl
@[simp] theorem State.recordDone_synth (s : State) (b : Word) (d : Nat) : (s.recordDone b d).synth = s.synth := rfl
@[simp] theorem State.recordDone_link (s : State) (b : Word) (d : Nat) : (s.recordDone b d).link = s.link := rfl
@[simp] theorem State.recordDone_relays (s : State) (b : Word) (d : Nat) : (s.recordDone b d).relays = s.relays := rfl
@[simp] theorem State.recordDone_measure (s : State) (b : Word) (d : Nat) : (s.recordDone b d).measure = s.measure := rfl
@[simp] theorem State.recordDone_watches (s : State) (b : Word) (d : Nat) : (s.recordDone b d).watches = s.watches := rfl
@[simp] theorem State.recordDone_window (s : State) (b : Word) (d : Nat) : (s.recordDone b d).window = s.window := rfl
@[simp] theorem State.recordDone_pending (s : State) (b : Word) (d : Nat) : (s.recordDone b d).pending = s.pending := rfl

@[simp] theorem State.countDone_rstLow (s : State) : (s.countDone).rstLow = s.rstLow := rfl
@[simp] theorem State.countDone_control (s : State) : (s.countDone).control = s.control := rfl
@[simp] theorem State.countDone_lanes (s : State) : (s.countDone).lanes = s.lanes := rfl
@[simp] theorem State.countDone_previousTrig (s : State) : (s.countDone).previousTrig = s.previousTrig := rfl
@[simp] theorem State.countDone_composer (s : State) : (s.countDone).composer = s.composer := rfl
@[simp] theorem State.countDone_timebase (s : State) : (s.countDone).timebase = s.timebase := rfl
@[simp] theorem State.countDone_synth (s : State) : (s.countDone).synth = s.synth := rfl
@[simp] theorem State.countDone_link (s : State) : (s.countDone).link = s.link := rfl
@[simp] theorem State.countDone_relays (s : State) : (s.countDone).relays = s.relays := rfl
@[simp] theorem State.countDone_measure (s : State) : (s.countDone).measure = s.measure := rfl
@[simp] theorem State.countDone_watches (s : State) : (s.countDone).watches = s.watches := rfl
@[simp] theorem State.countDone_journal (s : State) : (s.countDone).journal = s.journal := rfl
@[simp] theorem State.countDone_pending (s : State) : (s.countDone).pending = s.pending := rfl

@[simp] theorem State.grantTaken_rstLow (s : State) (k : LaneId) : (s.grantTaken k).rstLow = s.rstLow := rfl
@[simp] theorem State.grantTaken_control (s : State) (k : LaneId) : (s.grantTaken k).control = s.control := rfl
@[simp] theorem State.grantTaken_lanes (s : State) (k : LaneId) : (s.grantTaken k).lanes = s.lanes := rfl
@[simp] theorem State.grantTaken_previousTrig (s : State) (k : LaneId) : (s.grantTaken k).previousTrig = s.previousTrig := rfl
@[simp] theorem State.grantTaken_composer (s : State) (k : LaneId) : (s.grantTaken k).composer = s.composer := rfl
@[simp] theorem State.grantTaken_timebase (s : State) (k : LaneId) : (s.grantTaken k).timebase = s.timebase := rfl
@[simp] theorem State.grantTaken_synth (s : State) (k : LaneId) : (s.grantTaken k).synth = s.synth := rfl
@[simp] theorem State.grantTaken_link (s : State) (k : LaneId) : (s.grantTaken k).link = s.link := rfl
@[simp] theorem State.grantTaken_relays (s : State) (k : LaneId) : (s.grantTaken k).relays = s.relays := rfl
@[simp] theorem State.grantTaken_measure (s : State) (k : LaneId) : (s.grantTaken k).measure = s.measure := rfl
@[simp] theorem State.grantTaken_watches (s : State) (k : LaneId) : (s.grantTaken k).watches = s.watches := rfl
@[simp] theorem State.grantTaken_journal (s : State) (k : LaneId) : (s.grantTaken k).journal = s.journal := rfl
@[simp] theorem State.grantTaken_window (s : State) (k : LaneId) : (s.grantTaken k).window = s.window := rfl
@[simp] theorem State.grantTaken_pending (s : State) (k : LaneId) : (s.grantTaken k).pending = s.pending := rfl

@[simp] theorem State.grantWritten_rstLow (s : State) : (s.grantWritten).rstLow = s.rstLow := rfl
@[simp] theorem State.grantWritten_control (s : State) : (s.grantWritten).control = s.control := rfl
@[simp] theorem State.grantWritten_lanes (s : State) : (s.grantWritten).lanes = s.lanes := rfl
@[simp] theorem State.grantWritten_previousTrig (s : State) : (s.grantWritten).previousTrig = s.previousTrig := rfl
@[simp] theorem State.grantWritten_composer (s : State) : (s.grantWritten).composer = s.composer := rfl
@[simp] theorem State.grantWritten_timebase (s : State) : (s.grantWritten).timebase = s.timebase := rfl
@[simp] theorem State.grantWritten_synth (s : State) : (s.grantWritten).synth = s.synth := rfl
@[simp] theorem State.grantWritten_link (s : State) : (s.grantWritten).link = s.link := rfl
@[simp] theorem State.grantWritten_relays (s : State) : (s.grantWritten).relays = s.relays := rfl
@[simp] theorem State.grantWritten_measure (s : State) : (s.grantWritten).measure = s.measure := rfl
@[simp] theorem State.grantWritten_watches (s : State) : (s.grantWritten).watches = s.watches := rfl
@[simp] theorem State.grantWritten_journal (s : State) : (s.grantWritten).journal = s.journal := rfl
@[simp] theorem State.grantWritten_window (s : State) : (s.grantWritten).window = s.window := rfl
@[simp] theorem State.grantWritten_pending (s : State) : (s.grantWritten).pending = s.pending := rfl

@[simp] theorem State.grantScan_rstLow (s : State) : (s.grantScan).rstLow = s.rstLow := rfl
@[simp] theorem State.grantScan_control (s : State) : (s.grantScan).control = s.control := rfl
@[simp] theorem State.grantScan_lanes (s : State) : (s.grantScan).lanes = s.lanes := rfl
@[simp] theorem State.grantScan_previousTrig (s : State) : (s.grantScan).previousTrig = s.previousTrig := rfl
@[simp] theorem State.grantScan_composer (s : State) : (s.grantScan).composer = s.composer := rfl
@[simp] theorem State.grantScan_timebase (s : State) : (s.grantScan).timebase = s.timebase := rfl
@[simp] theorem State.grantScan_synth (s : State) : (s.grantScan).synth = s.synth := rfl
@[simp] theorem State.grantScan_link (s : State) : (s.grantScan).link = s.link := rfl
@[simp] theorem State.grantScan_relays (s : State) : (s.grantScan).relays = s.relays := rfl
@[simp] theorem State.grantScan_measure (s : State) : (s.grantScan).measure = s.measure := rfl
@[simp] theorem State.grantScan_watches (s : State) : (s.grantScan).watches = s.watches := rfl
@[simp] theorem State.grantScan_journal (s : State) : (s.grantScan).journal = s.journal := rfl
@[simp] theorem State.grantScan_window (s : State) : (s.grantScan).window = s.window := rfl
@[simp] theorem State.grantScan_pending (s : State) : (s.grantScan).pending = s.pending := rfl

@[simp] theorem State.grantLoad_rstLow (s : State) : (s.grantLoad).rstLow = s.rstLow := rfl
@[simp] theorem State.grantLoad_control (s : State) : (s.grantLoad).control = s.control := rfl
@[simp] theorem State.grantLoad_lanes (s : State) : (s.grantLoad).lanes = s.lanes := rfl
@[simp] theorem State.grantLoad_previousTrig (s : State) : (s.grantLoad).previousTrig = s.previousTrig := rfl
@[simp] theorem State.grantLoad_composer (s : State) : (s.grantLoad).composer = s.composer := rfl
@[simp] theorem State.grantLoad_timebase (s : State) : (s.grantLoad).timebase = s.timebase := rfl
@[simp] theorem State.grantLoad_synth (s : State) : (s.grantLoad).synth = s.synth := rfl
@[simp] theorem State.grantLoad_link (s : State) : (s.grantLoad).link = s.link := rfl
@[simp] theorem State.grantLoad_relays (s : State) : (s.grantLoad).relays = s.relays := rfl
@[simp] theorem State.grantLoad_measure (s : State) : (s.grantLoad).measure = s.measure := rfl
@[simp] theorem State.grantLoad_watches (s : State) : (s.grantLoad).watches = s.watches := rfl
@[simp] theorem State.grantLoad_journal (s : State) : (s.grantLoad).journal = s.journal := rfl
@[simp] theorem State.grantLoad_window (s : State) : (s.grantLoad).window = s.window := rfl
@[simp] theorem State.grantLoad_pending (s : State) : (s.grantLoad).pending = s.pending := rfl

@[simp] theorem State.loadDone_rstLow (s : State) (h : List Word) (n : Word) : (s.loadDone h n).rstLow = s.rstLow := rfl
@[simp] theorem State.loadDone_lanes (s : State) (h : List Word) (n : Word) : (s.loadDone h n).lanes = s.lanes := rfl
@[simp] theorem State.loadDone_previousTrig (s : State) (h : List Word) (n : Word) : (s.loadDone h n).previousTrig = s.previousTrig := rfl
@[simp] theorem State.loadDone_link (s : State) (h : List Word) (n : Word) : (s.loadDone h n).link = s.link := rfl
@[simp] theorem State.loadDone_watches (s : State) (h : List Word) (n : Word) : (s.loadDone h n).watches = s.watches := rfl
@[simp] theorem State.loadDone_pending (s : State) (h : List Word) (n : Word) : (s.loadDone h n).pending = s.pending := rfl

end Sys2Proof.Machine
end

