-- ==== Sys2Proof/Laws/Measure.lean ====
section
/-! SUPPORT. What each operation of the Measurement Unit leaves alone, one lemma per field, and what it sets. -/

namespace Sys2Proof.Machine

/-! ### Clearing and closing the cycle -/

@[simp] theorem Measure.atSample_holder (m : Measure) (c r : Bool) (n : PerPhase Nat) : (m.atSample c r n).holder = m.holder := by
  unfold Measure.atSample Measure.cleared; repeat' (first | rfl | split)
@[simp] theorem Measure.atSample_lastGood (m : Measure) (c r : Bool) (n : PerPhase Nat) : (m.atSample c r n).lastGood = m.lastGood := by
  unfold Measure.atSample Measure.cleared; repeat' (first | rfl | split)
@[simp] theorem Measure.atSample_liveStale (m : Measure) (c r : Bool) (n : PerPhase Nat) : (m.atSample c r n).liveStale = m.liveStale := by
  unfold Measure.atSample Measure.cleared; repeat' (first | rfl | split)
@[simp] theorem Measure.atSample_tripCode (m : Measure) (c r : Bool) (n : PerPhase Nat) : (m.atSample c r n).tripCode = m.tripCode := by
  unfold Measure.atSample Measure.cleared; repeat' (first | rfl | split)
@[simp] theorem Measure.atSample_tripCount (m : Measure) (c r : Bool) (n : PerPhase Nat) : (m.atSample c r n).tripCount = m.tripCount := by
  unfold Measure.atSample Measure.cleared; repeat' (first | rfl | split)
@[simp] theorem Measure.atSample_summaryPeriod (m : Measure) (c r : Bool) (n : PerPhase Nat) : (m.atSample c r n).summaryPeriod = m.summaryPeriod := by
  unfold Measure.atSample Measure.cleared; repeat' (first | rfl | split)
@[simp] theorem Measure.atSample_currentFloor (m : Measure) (c r : Bool) (n : PerPhase Nat) : (m.atSample c r n).currentFloor = m.currentFloor := by
  unfold Measure.atSample Measure.cleared; repeat' (first | rfl | split)
@[simp] theorem Measure.atSample_runCount (m : Measure) (c r : Bool) (n : PerPhase Nat) : (m.atSample c r n).runCount = m.runCount := by
  unfold Measure.atSample Measure.cleared; repeat' (first | rfl | split)
@[simp] theorem Measure.atSample_runPeak (m : Measure) (c r : Bool) (n : PerPhase Nat) : (m.atSample c r n).runPeak = m.runPeak := by
  unfold Measure.atSample Measure.cleared; repeat' (first | rfl | split)

@[simp] theorem Measure.take_sumV (m : Measure) (live : Bool) : (m.take live).sumV = m.sumV := by
  unfold Measure.take; split <;> rfl
@[simp] theorem Measure.take_sumI (m : Measure) (live : Bool) : (m.take live).sumI = m.sumI := by
  unfold Measure.take; split <;> rfl
@[simp] theorem Measure.take_count (m : Measure) (live : Bool) : (m.take live).count = m.count := by
  unfold Measure.take; split <;> rfl
@[simp] theorem Measure.take_peakI (m : Measure) (live : Bool) : (m.take live).peakI = m.peakI := by
  unfold Measure.take; split <;> rfl
@[simp] theorem Measure.take_figures (m : Measure) (live : Bool) : (m.take live).figures = m.figures := by
  unfold Measure.take; split <;> rfl
@[simp] theorem Measure.take_tripCode (m : Measure) (live : Bool) : (m.take live).tripCode = m.tripCode := by
  unfold Measure.take; split <;> rfl
@[simp] theorem Measure.take_tripCount (m : Measure) (live : Bool) : (m.take live).tripCount = m.tripCount := by
  unfold Measure.take; split <;> rfl
@[simp] theorem Measure.take_summaryPeriod (m : Measure) (live : Bool) : (m.take live).summaryPeriod = m.summaryPeriod := by
  unfold Measure.take; split <;> rfl
@[simp] theorem Measure.take_currentFloor (m : Measure) (live : Bool) : (m.take live).currentFloor = m.currentFloor := by
  unfold Measure.take; split <;> rfl
@[simp] theorem Measure.take_summaryCounter (m : Measure) (live : Bool) : (m.take live).summaryCounter = m.summaryCounter := by
  unfold Measure.take; split <;> rfl
@[simp] theorem Measure.take_runCount (m : Measure) (live : Bool) : (m.take live).runCount = m.runCount := by
  unfold Measure.take; split <;> rfl
@[simp] theorem Measure.take_runPeak (m : Measure) (live : Bool) : (m.take live).runPeak = m.runPeak := by
  unfold Measure.take; split <;> rfl

@[simp] theorem Measure.accumulate_holder (m : Measure) : (m.accumulate).holder = m.holder := rfl
@[simp] theorem Measure.accumulate_lastGood (m : Measure) : (m.accumulate).lastGood = m.lastGood := rfl
@[simp] theorem Measure.accumulate_liveStale (m : Measure) : (m.accumulate).liveStale = m.liveStale := rfl
@[simp] theorem Measure.accumulate_cycleStale (m : Measure) : (m.accumulate).cycleStale = m.cycleStale := rfl
@[simp] theorem Measure.accumulate_figures (m : Measure) : (m.accumulate).figures = m.figures := rfl
@[simp] theorem Measure.accumulate_tripCode (m : Measure) : (m.accumulate).tripCode = m.tripCode := rfl
@[simp] theorem Measure.accumulate_tripCount (m : Measure) : (m.accumulate).tripCount = m.tripCount := rfl
@[simp] theorem Measure.accumulate_summaryPeriod (m : Measure) : (m.accumulate).summaryPeriod = m.summaryPeriod := rfl
@[simp] theorem Measure.accumulate_currentFloor (m : Measure) : (m.accumulate).currentFloor = m.currentFloor := rfl
@[simp] theorem Measure.accumulate_summaryCounter (m : Measure) : (m.accumulate).summaryCounter = m.summaryCounter := rfl
@[simp] theorem Measure.accumulate_runCount (m : Measure) : (m.accumulate).runCount = m.runCount := rfl
@[simp] theorem Measure.accumulate_runPeak (m : Measure) : (m.accumulate).runPeak = m.runPeak := rfl

@[simp] theorem Measure.detect_holder (m : Measure) (mode : BitVec 2) (live : Bool) : (m.detect mode live).holder = m.holder := rfl
@[simp] theorem Measure.detect_lastGood (m : Measure) (mode : BitVec 2) (live : Bool) : (m.detect mode live).lastGood = m.lastGood := rfl
@[simp] theorem Measure.detect_liveStale (m : Measure) (mode : BitVec 2) (live : Bool) : (m.detect mode live).liveStale = m.liveStale := rfl
@[simp] theorem Measure.detect_sumV (m : Measure) (mode : BitVec 2) (live : Bool) : (m.detect mode live).sumV = m.sumV := rfl
@[simp] theorem Measure.detect_sumI (m : Measure) (mode : BitVec 2) (live : Bool) : (m.detect mode live).sumI = m.sumI := rfl
@[simp] theorem Measure.detect_count (m : Measure) (mode : BitVec 2) (live : Bool) : (m.detect mode live).count = m.count := rfl
@[simp] theorem Measure.detect_peakI (m : Measure) (mode : BitVec 2) (live : Bool) : (m.detect mode live).peakI = m.peakI := rfl
@[simp] theorem Measure.detect_cycleStale (m : Measure) (mode : BitVec 2) (live : Bool) : (m.detect mode live).cycleStale = m.cycleStale := rfl
@[simp] theorem Measure.detect_figures (m : Measure) (mode : BitVec 2) (live : Bool) : (m.detect mode live).figures = m.figures := rfl
@[simp] theorem Measure.detect_tripCode (m : Measure) (mode : BitVec 2) (live : Bool) : (m.detect mode live).tripCode = m.tripCode := rfl
@[simp] theorem Measure.detect_tripCount (m : Measure) (mode : BitVec 2) (live : Bool) : (m.detect mode live).tripCount = m.tripCount := rfl
@[simp] theorem Measure.detect_summaryPeriod (m : Measure) (mode : BitVec 2) (live : Bool) : (m.detect mode live).summaryPeriod = m.summaryPeriod := rfl
@[simp] theorem Measure.detect_currentFloor (m : Measure) (mode : BitVec 2) (live : Bool) : (m.detect mode live).currentFloor = m.currentFloor := rfl
@[simp] theorem Measure.detect_summaryCounter (m : Measure) (mode : BitVec 2) (live : Bool) : (m.detect mode live).summaryCounter = m.summaryCounter := rfl

@[simp] theorem Measure.afterSummary_holder (m : Measure) (c r : Bool) : (m.afterSummary c r).holder = m.holder := by
  unfold Measure.afterSummary; split <;> rfl
@[simp] theorem Measure.afterSummary_lastGood (m : Measure) (c r : Bool) : (m.afterSummary c r).lastGood = m.lastGood := by
  unfold Measure.afterSummary; split <;> rfl
@[simp] theorem Measure.afterSummary_liveStale (m : Measure) (c r : Bool) : (m.afterSummary c r).liveStale = m.liveStale := by
  unfold Measure.afterSummary; split <;> rfl
@[simp] theorem Measure.afterSummary_sumV (m : Measure) (c r : Bool) : (m.afterSummary c r).sumV = m.sumV := by
  unfold Measure.afterSummary; split <;> rfl
@[simp] theorem Measure.afterSummary_sumI (m : Measure) (c r : Bool) : (m.afterSummary c r).sumI = m.sumI := by
  unfold Measure.afterSummary; split <;> rfl
@[simp] theorem Measure.afterSummary_count (m : Measure) (c r : Bool) : (m.afterSummary c r).count = m.count := by
  unfold Measure.afterSummary; split <;> rfl
@[simp] theorem Measure.afterSummary_peakI (m : Measure) (c r : Bool) : (m.afterSummary c r).peakI = m.peakI := by
  unfold Measure.afterSummary; split <;> rfl
@[simp] theorem Measure.afterSummary_cycleStale (m : Measure) (c r : Bool) : (m.afterSummary c r).cycleStale = m.cycleStale := by
  unfold Measure.afterSummary; split <;> rfl
@[simp] theorem Measure.afterSummary_figures (m : Measure) (c r : Bool) : (m.afterSummary c r).figures = m.figures := by
  unfold Measure.afterSummary; split <;> rfl
@[simp] theorem Measure.afterSummary_tripCode (m : Measure) (c r : Bool) : (m.afterSummary c r).tripCode = m.tripCode := by
  unfold Measure.afterSummary; split <;> rfl
@[simp] theorem Measure.afterSummary_tripCount (m : Measure) (c r : Bool) : (m.afterSummary c r).tripCount = m.tripCount := by
  unfold Measure.afterSummary; split <;> rfl
@[simp] theorem Measure.afterSummary_summaryPeriod (m : Measure) (c r : Bool) : (m.afterSummary c r).summaryPeriod = m.summaryPeriod := by
  unfold Measure.afterSummary; split <;> rfl
@[simp] theorem Measure.afterSummary_currentFloor (m : Measure) (c r : Bool) : (m.afterSummary c r).currentFloor = m.currentFloor := by
  unfold Measure.afterSummary; split <;> rfl
@[simp] theorem Measure.afterSummary_runCount (m : Measure) (c r : Bool) : (m.afterSummary c r).runCount = m.runCount := by
  unfold Measure.afterSummary; split <;> rfl
@[simp] theorem Measure.afterSummary_runPeak (m : Measure) (c r : Bool) : (m.afterSummary c r).runPeak = m.runPeak := by
  unfold Measure.afterSummary; split <;> rfl

/-- The measurement of a sample: the held frame, or the last good one again (R135). -/
@[simp] theorem Measure.take_lastGood (m : Measure) (live : Bool) :
    (m.take live).lastGood = m.holder.getD m.lastGood := by
  unfold Measure.take; split <;> simp_all

@[simp] theorem Measure.take_holder (m : Measure) (live : Bool) : (m.take live).holder = none := by
  unfold Measure.take; split <;> simp_all

@[simp] theorem Measure.take_liveStale (m : Measure) (live : Bool) :
    (m.take live).liveStale = if live && m.holder.isNone then min (m.liveStale + 1) 256 else 0 := by
  unfold Measure.take; split <;> simp_all

@[simp] theorem Measure.take_cycleStale (m : Measure) (live : Bool) :
    (m.take live).cycleStale = m.cycleStale + if m.holder.isNone then 1 else 0 := by
  unfold Measure.take; split <;> simp_all

end Sys2Proof.Machine
end

