-- ==== Sys2Proof/Laws/Ops.lean ====
section
/-! SUPPORT. One lemma for each operation that the commands share, saying once what it can do: posting, setting a flag,
requesting a scan, the arbiter's choice of a lane, the cue test, a refusal, and the end of a transaction. -/

namespace Sys2Proof.Machine

/-! ### Records and flags -/

/-- Posting puts the record at the tail while fewer than 8 wait, and counts a drop otherwise (R165, R167). -/
theorem Journal.post_spec (j : Journal) (r : Record) :
    (j.queue.length < 8 → j.post r = { j with queue := j.queue ++ [r] }) ∧
      (8 ≤ j.queue.length → j.post r = { j with drops := min (j.drops + 1) 4294967295 }) := by
  unfold Journal.post queueCapacity addDrop
  exact ⟨fun h => if_pos h, fun h => if_neg (by omega)⟩

@[simp] theorem Journal.postAll_nil (j : Journal) : j.postAll [] = j := rfl

@[simp] theorem Journal.postAll_cons (j : Journal) (r : Record) (rs : List Record) :
    j.postAll (r :: rs) = (j.post r).postAll rs := rfl

/-- Setting a flag leaves MASK as it is, and both lines follow their conditions (R173, R174). -/
theorem Window.setFlag_spec (w : Window) (f : Flag) :
    (w.setFlag f).flags = w.flags ||| flagWord f ∧ (w.setFlag f).mask = w.mask ∧
      (w.setFlag f).alert = alertCondition (w.flags ||| flagWord f) w.mask ∧
      (w.setFlag f).notice = noticeCondition (w.flags ||| flagWord f) w.mask := ⟨rfl, rfl, rfl, rfl⟩

@[simp] theorem Window.setFlagIf_true (w : Window) (f : Flag) : w.setFlagIf true f = w.setFlag f := rfl

@[simp] theorem Window.setFlagIf_false (w : Window) (f : Flag) : w.setFlagIf false f = w := rfl

/-! ### Requests and grants -/

/-- A scan is requested, or a scan in flight that no soft reset has disowned takes the request with it (R5). -/
theorem Port.requestScan_spec (p : Port) :
    p.requestScan = { p with scanRequest := true } ∨
      (p.requestScan = p ∧ ∃ t, p.slot = some t ∧ t.kind = .scan ∧ t.orphan = false) := by
  unfold Port.requestScan
  split
  · split
    · exact .inr ⟨rfl, _, ‹_›, ‹_ ∧ _›.1, ‹_ ∧ _›.2⟩
    · exact .inl rfl
  · exact .inl rfl

/-- The arbiter reaches the fetch of the lowest lane with a request waiting (R16). -/
theorem firstFetch_eq_some (ls : PerLane Lane) (k : LaneId) (f : Fetch) (h : (getLane ls k).request = some f)
    (hl : ∀ j, laneNumber j < laneNumber k → (getLane ls j).request = none) : firstFetch ls = some (k, f) := by
  have h0 := hl .l0; have h1 := hl .l1; have h2 := hl .l2; have h3 := hl .l3; have h4 := hl .l4
  clear hl
  unfold firstFetch allLanes
  cases k <;> simp [laneNumber] at h0 h1 h2 h3 h4 <;> simp_all [List.findSome?]

/-- With no lane's request waiting the arbiter passes the lanes over (R16). -/
theorem firstFetch_eq_none (ls : PerLane Lane) (h : ∀ k, (getLane ls k).request = none) : firstFetch ls = none := by
  simp [firstFetch, allLanes, List.findSome?, h]

/-- The lowest lane of a set (R16, R74). -/
theorem lowestLane_eq_some (v : PerLane Bool) (k : LaneId) (h : getLane v k = true)
    (hl : ∀ j, laneNumber j < laneNumber k → getLane v j = false) : lowestLane v = some k := by
  have h0 := hl .l0; have h1 := hl .l1; have h2 := hl .l2; have h3 := hl .l3; have h4 := hl .l4
  clear hl
  unfold lowestLane allLanes
  cases k <;> simp [laneNumber] at h0 h1 h2 h3 h4 <;> simp_all [List.find?]

/-- An empty set has no lowest lane (R74). -/
theorem lowestLane_eq_none (v : PerLane Bool) (h : ∀ k, getLane v k = false) : lowestLane v = none := by
  simp [lowestLane, allLanes, List.find?, h]

/-! ### The cue test and refusals -/

/-- What a refusal does: it halts a lane that fills its current slot, and else leaves the next slot REFUSED; a
PLAN_REFUSED is posted in both cases (R40). -/
theorem refuse_spec (e : LaneEnv) (cause : Refused) (offending episode : Half) (l : Lane) :
    (refuse e cause offending episode l).plan = true ∧ (refuse e cause offending episode l).listening = none ∧
      (l.state = .idle ∨ l.state = .fetching →
        (refuse e cause offending episode l).lane = l.halted ∧
          (refuse e cause offending episode l).records =
            [e.record episode (.planRefused cause offending), e.record episode (.laneHalted cause)]) ∧
      (l.state ≠ .idle → l.state ≠ .fetching →
        (refuse e cause offending episode l).lane = { l with next := .refused cause episode, request := none } ∧
          (refuse e cause offending episode l).records = [e.record episode (.planRefused cause offending)]) := by
  unfold refuse
  split
  · exact ⟨rfl, rfl, fun _ => ⟨rfl, rfl⟩, fun h1 h2 => absurd ‹_ ∨ _› (by simp [h1, h2])⟩
  · exact ⟨rfl, rfl, fun h => absurd h ‹_›, fun _ _ => ⟨rfl, rfl⟩⟩

/-- The cue test has four outcomes: not applied, nothing posted, the cue fetch requested, or a refusal (R7). -/
theorem cueTest_spec (e : LaneEnv) (l : Lane) :
    ((e.engine.cueOpen && l.needsEpisode) = false → cueTest e l = { lane := l }) ∧
      ((e.engine.cueOpen && l.needsEpisode) = true →
        (cueDistance e.posted e.taken = 0 → cueTest e l = { lane := l }) ∧
        (1 ≤ cueDistance e.posted e.taken → cueDistance e.posted e.taken ≤ 16 →
          cueTest e l = { lane := l.requestCue }) ∧
        (17 ≤ cueDistance e.posted e.taken →
          cueTest e l = refuse e .cueCount (halfIndex (cueSlot e.taken)) noEpisode l)) := by
  unfold cueTest
  refine ⟨fun h => by simp [h], fun h => ⟨fun h0 => by simp [h, h0], fun h1 h2 => ?_, fun h1 => ?_⟩⟩
  · rw [if_pos h, if_neg (by omega), if_pos h2]
  · rw [if_pos h, if_neg (by omega), if_neg (by omega)]

/-- A request for a cue fetch fills the slot that the lane needs, unless a stop is pending (R46, R47, R66). -/
theorem Lane.requestCue_spec (l : Lane) :
    (l.pendingStop = true → l.requestCue = l) ∧
      (l.pendingStop = false → l.state = .idle →
        l.requestCue = { l with state := .fetching, late := false, request := some .cue }) ∧
      (l.pendingStop = false → l.state ≠ .idle →
        l.requestCue = { l with next := .fetching, request := some .cue }) := by
  unfold Lane.requestCue
  exact ⟨fun h => by simp [h], fun h h' => by simp [h, h'], fun h h' => by simp [h, h']⟩

/-- A halted lane is empty, with no stop pending (R66, R69, R70). -/
theorem Lane.halted_spec (l : Lane) :
    l.halted.state = .halted ∧ l.halted.current = none ∧ l.halted.next = .empty ∧ l.halted.request = none ∧
      l.halted.stage = none ∧ l.halted.pendingStop = false := ⟨rfl, rfl, rfl, rfl, rfl, rfl⟩

/-! ### Endings -/

/-- A completion: ignored with no transaction of its kind in flight, only an ending where a soft reset has disowned the
transaction, and the given work on the freed slot otherwise (R15, R19). -/
theorem State.onCompletion_spec (s : State) (kind : BusKind → Bool) (f : Transaction → State → State) :
    (s.port.slot = none → s.onCompletion kind f = s) ∧
      ∀ t, s.port.slot = some t →
        (kind t.kind = false → s.onCompletion kind f = s) ∧
        (kind t.kind = true → t.orphan = true → s.onCompletion kind f = s.freeSlot) ∧
        (kind t.kind = true → t.orphan = false → s.onCompletion kind f = f t s.freeSlot) := by
  unfold State.onCompletion
  refine ⟨fun h => by rw [h], fun t h => ?_⟩
  rw [h]
  exact ⟨fun hk => by simp [hk], fun hk ho => by simp [hk, ho], fun hk ho => by simp [hk, ho]⟩

/-- A failure: nothing with the slot IDLE, only an ending for a disowned transaction, and else FLAGS.BUS with the
outcome of the table of bus endings (R15, R19). -/
theorem State.fail_spec (s : State) :
    (s.port.slot = none → s.fail = { state := s }) ∧
      ∀ t, s.port.slot = some t →
        (t.orphan = true → s.fail = { state := s.freeSlot }) ∧
        (t.orphan = false → s.fail = (s.freeSlot.setFlag .bus).failed t.kind) := by
  unfold State.fail
  refine ⟨fun h => by rw [h], fun t h => ?_⟩
  rw [h]
  exact ⟨fun ho => by simp [ho], fun ho => by simp [ho]⟩

/-! ### Arithmetic -/

/-- The nearest integer: twice the error is at most the divisor (00, rounding words). -/
theorem roundDiv_error (n : Int) (d : Nat) (hd : 0 < d) : 2 * |roundDiv n d * d - n| ≤ d := by
  have hd' : (0 : Int) < 2 * d := by omega
  unfold roundDiv floorDiv
  push_cast
  split
  · rw [Int.fdiv_eq_ediv_of_nonneg _ hd'.le]
    have h1 := Int.mul_ediv_add_emod (2 * n + d) (2 * d)
    have h2 := Int.emod_nonneg (2 * n + d) hd'.ne'
    have h3 := Int.emod_lt_of_pos (2 * n + d) hd'
    generalize hq : (2 * n + (d : Int)) / (2 * d) = q at h1 ⊢
    cases abs_cases (q * d - n) <;> nlinarith
  · rw [Int.fdiv_eq_ediv_of_nonneg _ hd'.le]
    have h1 := Int.mul_ediv_add_emod (2 * -n + d) (2 * d)
    have h2 := Int.emod_nonneg (2 * -n + d) hd'.ne'
    have h3 := Int.emod_lt_of_pos (2 * -n + d) hd'
    generalize hq : (2 * -n + (d : Int)) / (2 * d) = q at h1 ⊢
    cases abs_cases (-q * d - n) <;> nlinarith

end Sys2Proof.Machine
end

