-- ==== Sys2Proof/Laws/Stages.lean ====
section
/-! SUPPORT. What each stage of a sample event leaves alone, one lemma per field, and that a stage takes back nothing
that has come about before it. -/

namespace Sys2Proof.Machine

/-! ### Failures -/

@[simp] theorem State.fail_rstLow (s : State) : s.fail.state.rstLow = s.rstLow := by
  unfold State.fail State.failed State.fetchFailed State.loadFailed; repeat' (first | split | rfl)
@[simp] theorem State.fail_previousTrig (s : State) : s.fail.state.previousTrig = s.previousTrig := by
  unfold State.fail State.failed State.fetchFailed State.loadFailed; repeat' (first | split | rfl)
@[simp] theorem State.fail_composer (s : State) : s.fail.state.composer = s.composer := by
  unfold State.fail State.failed State.fetchFailed State.loadFailed; repeat' (first | split | rfl)
@[simp] theorem State.fail_timebase (s : State) : s.fail.state.timebase = s.timebase := by
  unfold State.fail State.failed State.fetchFailed State.loadFailed; repeat' (first | split | rfl)
@[simp] theorem State.fail_synth (s : State) : s.fail.state.synth = s.synth := by
  unfold State.fail State.failed State.fetchFailed State.loadFailed; repeat' (first | split | rfl)
@[simp] theorem State.fail_link (s : State) : s.fail.state.link = s.link := by
  unfold State.fail State.failed State.fetchFailed State.loadFailed; repeat' (first | split | rfl)
@[simp] theorem State.fail_relays (s : State) : s.fail.state.relays = s.relays := by
  unfold State.fail State.failed State.fetchFailed State.loadFailed; repeat' (first | split | rfl)
@[simp] theorem State.fail_measure (s : State) : s.fail.state.measure = s.measure := by
  unfold State.fail State.failed State.fetchFailed State.loadFailed; repeat' (first | split | rfl)
@[simp] theorem State.fail_watches (s : State) : s.fail.state.watches = s.watches := by
  unfold State.fail State.failed State.fetchFailed State.loadFailed; repeat' (first | split | rfl)
@[simp] theorem State.fail_journal (s : State) : s.fail.state.journal = s.journal := by
  unfold State.fail State.failed State.fetchFailed State.loadFailed; repeat' (first | split | rfl)
@[simp] theorem State.fail_pending (s : State) : s.fail.state.pending = s.pending := by
  unfold State.fail State.failed State.fetchFailed State.loadFailed; repeat' (first | split | rfl)

/-! ### tick -/

@[simp] theorem Work.tick_rstLow (w : Work) : (w.tick).state.rstLow = w.state.rstLow := rfl
@[simp] theorem Work.tick_control (w : Work) : (w.tick).state.control = w.state.control := rfl
@[simp] theorem Work.tick_port (w : Work) : (w.tick).state.port = w.state.port := rfl
@[simp] theorem Work.tick_lanes (w : Work) : (w.tick).state.lanes = w.state.lanes := rfl
@[simp] theorem Work.tick_previousTrig (w : Work) : (w.tick).state.previousTrig = w.state.previousTrig := rfl
@[simp] theorem Work.tick_composer (w : Work) : (w.tick).state.composer = w.state.composer := rfl
@[simp] theorem Work.tick_synth (w : Work) : (w.tick).state.synth = w.state.synth := rfl
@[simp] theorem Work.tick_link (w : Work) : (w.tick).state.link = w.state.link := rfl
@[simp] theorem Work.tick_relays (w : Work) : (w.tick).state.relays = w.state.relays := rfl
@[simp] theorem Work.tick_measure (w : Work) : (w.tick).state.measure = w.state.measure := rfl
@[simp] theorem Work.tick_watches (w : Work) : (w.tick).state.watches = w.state.watches := rfl
@[simp] theorem Work.tick_journal (w : Work) : (w.tick).state.journal = w.state.journal := rfl
@[simp] theorem Work.tick_window (w : Work) : (w.tick).state.window = w.state.window := rfl
@[simp] theorem Work.tick_pending (w : Work) : (w.tick).state.pending = w.state.pending := rfl
@[simp] theorem Work.tick_out_opened (w : Work) : (w.tick).opened = w.opened := rfl
@[simp] theorem Work.tick_out_entered (w : Work) : (w.tick).entered = w.entered := rfl
@[simp] theorem Work.tick_out_released (w : Work) : (w.tick).released = w.released := rfl
@[simp] theorem Work.tick_out_protection (w : Work) : (w.tick).protection = w.protection := rfl
@[simp] theorem Work.tick_out_softDone (w : Work) : (w.tick).softDone = w.softDone := rfl

/-! ### waitTimer -/

@[simp] theorem Work.waitTimer_rstLow (w : Work) : (w.waitTimer).state.rstLow = w.state.rstLow := rfl
@[simp] theorem Work.waitTimer_control (w : Work) : (w.waitTimer).state.control = w.state.control := rfl
@[simp] theorem Work.waitTimer_lanes (w : Work) : (w.waitTimer).state.lanes = w.state.lanes := rfl
@[simp] theorem Work.waitTimer_previousTrig (w : Work) : (w.waitTimer).state.previousTrig = w.state.previousTrig := rfl
@[simp] theorem Work.waitTimer_composer (w : Work) : (w.waitTimer).state.composer = w.state.composer := rfl
@[simp] theorem Work.waitTimer_timebase (w : Work) : (w.waitTimer).state.timebase = w.state.timebase := rfl
@[simp] theorem Work.waitTimer_synth (w : Work) : (w.waitTimer).state.synth = w.state.synth := rfl
@[simp] theorem Work.waitTimer_link (w : Work) : (w.waitTimer).state.link = w.state.link := rfl
@[simp] theorem Work.waitTimer_relays (w : Work) : (w.waitTimer).state.relays = w.state.relays := rfl
@[simp] theorem Work.waitTimer_measure (w : Work) : (w.waitTimer).state.measure = w.state.measure := rfl
@[simp] theorem Work.waitTimer_watches (w : Work) : (w.waitTimer).state.watches = w.state.watches := rfl
@[simp] theorem Work.waitTimer_journal (w : Work) : (w.waitTimer).state.journal = w.state.journal := rfl
@[simp] theorem Work.waitTimer_window (w : Work) : (w.waitTimer).state.window = w.state.window := rfl
@[simp] theorem Work.waitTimer_pending (w : Work) : (w.waitTimer).state.pending = w.state.pending := rfl
@[simp] theorem Work.waitTimer_out_cycleStart (w : Work) : (w.waitTimer).cycleStart = w.cycleStart := rfl
@[simp] theorem Work.waitTimer_out_restart (w : Work) : (w.waitTimer).restart = w.restart := rfl
@[simp] theorem Work.waitTimer_out_advance (w : Work) : (w.waitTimer).advance = w.advance := rfl
@[simp] theorem Work.waitTimer_out_opened (w : Work) : (w.waitTimer).opened = w.opened := rfl
@[simp] theorem Work.waitTimer_out_entered (w : Work) : (w.waitTimer).entered = w.entered := rfl
@[simp] theorem Work.waitTimer_out_released (w : Work) : (w.waitTimer).released = w.released := rfl
@[simp] theorem Work.waitTimer_out_protection (w : Work) : (w.waitTimer).protection = w.protection := rfl
@[simp] theorem Work.waitTimer_out_softDone (w : Work) : (w.waitTimer).softDone = w.softDone := rfl

/-! ### expire -/

@[simp] theorem Work.expire_rstLow (w : Work) (b : Bool) : (w.expire b).state.rstLow = w.state.rstLow := by
  unfold Work.expire; split <;> simp
@[simp] theorem Work.expire_previousTrig (w : Work) (b : Bool) : (w.expire b).state.previousTrig = w.state.previousTrig := by
  unfold Work.expire; split <;> simp
@[simp] theorem Work.expire_composer (w : Work) (b : Bool) : (w.expire b).state.composer = w.state.composer := by
  unfold Work.expire; split <;> simp
@[simp] theorem Work.expire_timebase (w : Work) (b : Bool) : (w.expire b).state.timebase = w.state.timebase := by
  unfold Work.expire; split <;> simp
@[simp] theorem Work.expire_synth (w : Work) (b : Bool) : (w.expire b).state.synth = w.state.synth := by
  unfold Work.expire; split <;> simp
@[simp] theorem Work.expire_link (w : Work) (b : Bool) : (w.expire b).state.link = w.state.link := by
  unfold Work.expire; split <;> simp
@[simp] theorem Work.expire_relays (w : Work) (b : Bool) : (w.expire b).state.relays = w.state.relays := by
  unfold Work.expire; split <;> simp
@[simp] theorem Work.expire_measure (w : Work) (b : Bool) : (w.expire b).state.measure = w.state.measure := by
  unfold Work.expire; split <;> simp
@[simp] theorem Work.expire_watches (w : Work) (b : Bool) : (w.expire b).state.watches = w.state.watches := by
  unfold Work.expire; split <;> simp
@[simp] theorem Work.expire_journal (w : Work) (b : Bool) : (w.expire b).state.journal = w.state.journal := by
  unfold Work.expire; split <;> simp
@[simp] theorem Work.expire_pending (w : Work) (b : Bool) : (w.expire b).state.pending = w.state.pending := by
  unfold Work.expire; split <;> simp
@[simp] theorem Work.expire_out_cycleStart (w : Work) (b : Bool) : (w.expire b).cycleStart = w.cycleStart := by
  unfold Work.expire; split <;> simp
@[simp] theorem Work.expire_out_restart (w : Work) (b : Bool) : (w.expire b).restart = w.restart := by
  unfold Work.expire; split <;> simp
@[simp] theorem Work.expire_out_advance (w : Work) (b : Bool) : (w.expire b).advance = w.advance := by
  unfold Work.expire; split <;> simp
@[simp] theorem Work.expire_out_opened (w : Work) (b : Bool) : (w.expire b).opened = w.opened := by
  unfold Work.expire; split <;> simp
@[simp] theorem Work.expire_out_entered (w : Work) (b : Bool) : (w.expire b).entered = w.entered := by
  unfold Work.expire; split <;> simp
@[simp] theorem Work.expire_out_released (w : Work) (b : Bool) : (w.expire b).released = w.released := by
  unfold Work.expire; split <;> simp
@[simp] theorem Work.expire_out_protection (w : Work) (b : Bool) : (w.expire b).protection = w.protection := by
  unfold Work.expire; split <;> simp
@[simp] theorem Work.expire_out_softDone (w : Work) (b : Bool) : (w.expire b).softDone = w.softDone := by
  unfold Work.expire; split <;> simp

/-! ### dropHead -/

@[simp] theorem Work.dropHead_rstLow (w : Work) (b : Bool) : (w.dropHead b).state.rstLow = w.state.rstLow := by
  unfold Work.dropHead; split <;> rfl
@[simp] theorem Work.dropHead_control (w : Work) (b : Bool) : (w.dropHead b).state.control = w.state.control := by
  unfold Work.dropHead; split <;> rfl
@[simp] theorem Work.dropHead_port (w : Work) (b : Bool) : (w.dropHead b).state.port = w.state.port := by
  unfold Work.dropHead; split <;> rfl
@[simp] theorem Work.dropHead_lanes (w : Work) (b : Bool) : (w.dropHead b).state.lanes = w.state.lanes := by
  unfold Work.dropHead; split <;> rfl
@[simp] theorem Work.dropHead_previousTrig (w : Work) (b : Bool) : (w.dropHead b).state.previousTrig = w.state.previousTrig := by
  unfold Work.dropHead; split <;> rfl
@[simp] theorem Work.dropHead_composer (w : Work) (b : Bool) : (w.dropHead b).state.composer = w.state.composer := by
  unfold Work.dropHead; split <;> rfl
@[simp] theorem Work.dropHead_timebase (w : Work) (b : Bool) : (w.dropHead b).state.timebase = w.state.timebase := by
  unfold Work.dropHead; split <;> rfl
@[simp] theorem Work.dropHead_synth (w : Work) (b : Bool) : (w.dropHead b).state.synth = w.state.synth := by
  unfold Work.dropHead; split <;> rfl
@[simp] theorem Work.dropHead_link (w : Work) (b : Bool) : (w.dropHead b).state.link = w.state.link := by
  unfold Work.dropHead; split <;> rfl
@[simp] theorem Work.dropHead_relays (w : Work) (b : Bool) : (w.dropHead b).state.relays = w.state.relays := by
  unfold Work.dropHead; split <;> rfl
@[simp] theorem Work.dropHead_measure (w : Work) (b : Bool) : (w.dropHead b).state.measure = w.state.measure := by
  unfold Work.dropHead; split <;> rfl
@[simp] theorem Work.dropHead_watches (w : Work) (b : Bool) : (w.dropHead b).state.watches = w.state.watches := by
  unfold Work.dropHead; split <;> rfl
@[simp] theorem Work.dropHead_window (w : Work) (b : Bool) : (w.dropHead b).state.window = w.state.window := by
  unfold Work.dropHead; split <;> rfl
@[simp] theorem Work.dropHead_pending (w : Work) (b : Bool) : (w.dropHead b).state.pending = w.state.pending := by
  unfold Work.dropHead; split <;> rfl
@[simp] theorem Work.dropHead_out_cycleStart (w : Work) (b : Bool) : (w.dropHead b).cycleStart = w.cycleStart := by
  unfold Work.dropHead; split <;> rfl
@[simp] theorem Work.dropHead_out_restart (w : Work) (b : Bool) : (w.dropHead b).restart = w.restart := by
  unfold Work.dropHead; split <;> rfl
@[simp] theorem Work.dropHead_out_advance (w : Work) (b : Bool) : (w.dropHead b).advance = w.advance := by
  unfold Work.dropHead; split <;> rfl
@[simp] theorem Work.dropHead_out_opened (w : Work) (b : Bool) : (w.dropHead b).opened = w.opened := by
  unfold Work.dropHead; split <;> rfl
@[simp] theorem Work.dropHead_out_entered (w : Work) (b : Bool) : (w.dropHead b).entered = w.entered := by
  unfold Work.dropHead; split <;> rfl
@[simp] theorem Work.dropHead_out_released (w : Work) (b : Bool) : (w.dropHead b).released = w.released := by
  unfold Work.dropHead; split <;> rfl
@[simp] theorem Work.dropHead_out_protection (w : Work) (b : Bool) : (w.dropHead b).protection = w.protection := by
  unfold Work.dropHead; split <;> rfl
@[simp] theorem Work.dropHead_out_softDone (w : Work) (b : Bool) : (w.dropHead b).softDone = w.softDone := by
  unfold Work.dropHead; split <;> rfl

/-! ### enterProgress -/

@[simp] theorem Work.enterProgress_rstLow (w : Work) : (w.enterProgress).state.rstLow = w.state.rstLow := by
  unfold Work.enterProgress; dsimp only; split <;> rfl
@[simp] theorem Work.enterProgress_port (w : Work) : (w.enterProgress).state.port = w.state.port := by
  unfold Work.enterProgress; dsimp only; split <;> rfl
@[simp] theorem Work.enterProgress_lanes (w : Work) : (w.enterProgress).state.lanes = w.state.lanes := by
  unfold Work.enterProgress; dsimp only; split <;> rfl
@[simp] theorem Work.enterProgress_previousTrig (w : Work) : (w.enterProgress).state.previousTrig = w.state.previousTrig := by
  unfold Work.enterProgress; dsimp only; split <;> rfl
@[simp] theorem Work.enterProgress_timebase (w : Work) : (w.enterProgress).state.timebase = w.state.timebase := by
  unfold Work.enterProgress; dsimp only; split <;> rfl
@[simp] theorem Work.enterProgress_synth (w : Work) : (w.enterProgress).state.synth = w.state.synth := by
  unfold Work.enterProgress; dsimp only; split <;> rfl
@[simp] theorem Work.enterProgress_link (w : Work) : (w.enterProgress).state.link = w.state.link := by
  unfold Work.enterProgress; dsimp only; split <;> rfl
@[simp] theorem Work.enterProgress_relays (w : Work) : (w.enterProgress).state.relays = w.state.relays := by
  unfold Work.enterProgress; dsimp only; split <;> rfl
@[simp] theorem Work.enterProgress_measure (w : Work) : (w.enterProgress).state.measure = w.state.measure := by
  unfold Work.enterProgress; dsimp only; split <;> rfl
@[simp] theorem Work.enterProgress_watches (w : Work) : (w.enterProgress).state.watches = w.state.watches := by
  unfold Work.enterProgress; dsimp only; split <;> rfl
@[simp] theorem Work.enterProgress_journal (w : Work) : (w.enterProgress).state.journal = w.state.journal := by
  unfold Work.enterProgress; dsimp only; split <;> rfl
@[simp] theorem Work.enterProgress_pending (w : Work) : (w.enterProgress).state.pending = w.state.pending := by
  unfold Work.enterProgress; dsimp only; split <;> rfl
@[simp] theorem Work.enterProgress_out_cycleStart (w : Work) : (w.enterProgress).cycleStart = w.cycleStart := by
  unfold Work.enterProgress; dsimp only; split <;> rfl
@[simp] theorem Work.enterProgress_out_restart (w : Work) : (w.enterProgress).restart = w.restart := by
  unfold Work.enterProgress; dsimp only; split <;> rfl
@[simp] theorem Work.enterProgress_out_advance (w : Work) : (w.enterProgress).advance = w.advance := by
  unfold Work.enterProgress; dsimp only; split <;> rfl
@[simp] theorem Work.enterProgress_out_opened (w : Work) : (w.enterProgress).opened = w.opened := by
  unfold Work.enterProgress; dsimp only; split <;> rfl
@[simp] theorem Work.enterProgress_out_released (w : Work) : (w.enterProgress).released = w.released := by
  unfold Work.enterProgress; dsimp only; split <;> rfl
@[simp] theorem Work.enterProgress_out_protection (w : Work) : (w.enterProgress).protection = w.protection := by
  unfold Work.enterProgress; dsimp only; split <;> rfl
@[simp] theorem Work.enterProgress_out_softDone (w : Work) : (w.enterProgress).softDone = w.softDone := by
  unfold Work.enterProgress; dsimp only; split <;> rfl

/-! ### actOnRelease -/

@[simp] theorem Work.actOnRelease_rstLow (w : Work) : (w.actOnRelease).state.rstLow = w.state.rstLow := by
  unfold Work.actOnRelease; dsimp only; repeat' (first | split | rfl)
@[simp] theorem Work.actOnRelease_port (w : Work) : (w.actOnRelease).state.port = w.state.port := by
  unfold Work.actOnRelease; dsimp only; repeat' (first | split | rfl)
@[simp] theorem Work.actOnRelease_lanes (w : Work) : (w.actOnRelease).state.lanes = w.state.lanes := by
  unfold Work.actOnRelease; dsimp only; repeat' (first | split | rfl)
@[simp] theorem Work.actOnRelease_previousTrig (w : Work) : (w.actOnRelease).state.previousTrig = w.state.previousTrig := by
  unfold Work.actOnRelease; dsimp only; repeat' (first | split | rfl)
@[simp] theorem Work.actOnRelease_timebase (w : Work) : (w.actOnRelease).state.timebase = w.state.timebase := by
  unfold Work.actOnRelease; dsimp only; repeat' (first | split | rfl)
@[simp] theorem Work.actOnRelease_synth (w : Work) : (w.actOnRelease).state.synth = w.state.synth := by
  unfold Work.actOnRelease; dsimp only; repeat' (first | split | rfl)
@[simp] theorem Work.actOnRelease_link (w : Work) : (w.actOnRelease).state.link = w.state.link := by
  unfold Work.actOnRelease; dsimp only; repeat' (first | split | rfl)
@[simp] theorem Work.actOnRelease_relays (w : Work) : (w.actOnRelease).state.relays = w.state.relays := by
  unfold Work.actOnRelease; dsimp only; repeat' (first | split | rfl)
@[simp] theorem Work.actOnRelease_measure (w : Work) : (w.actOnRelease).state.measure = w.state.measure := by
  unfold Work.actOnRelease; dsimp only; repeat' (first | split | rfl)
@[simp] theorem Work.actOnRelease_watches (w : Work) : (w.actOnRelease).state.watches = w.state.watches := by
  unfold Work.actOnRelease; dsimp only; repeat' (first | split | rfl)
@[simp] theorem Work.actOnRelease_journal (w : Work) : (w.actOnRelease).state.journal = w.state.journal := by
  unfold Work.actOnRelease; dsimp only; repeat' (first | split | rfl)
@[simp] theorem Work.actOnRelease_window (w : Work) : (w.actOnRelease).state.window = w.state.window := by
  unfold Work.actOnRelease; dsimp only; repeat' (first | split | rfl)
@[simp] theorem Work.actOnRelease_pending (w : Work) : (w.actOnRelease).state.pending = w.state.pending := by
  unfold Work.actOnRelease; dsimp only; repeat' (first | split | rfl)
@[simp] theorem Work.actOnRelease_out_cycleStart (w : Work) : (w.actOnRelease).cycleStart = w.cycleStart := by
  unfold Work.actOnRelease; dsimp only; repeat' (first | split | rfl)
@[simp] theorem Work.actOnRelease_out_restart (w : Work) : (w.actOnRelease).restart = w.restart := by
  unfold Work.actOnRelease; dsimp only; repeat' (first | split | rfl)
@[simp] theorem Work.actOnRelease_out_advance (w : Work) : (w.actOnRelease).advance = w.advance := by
  unfold Work.actOnRelease; dsimp only; repeat' (first | split | rfl)
@[simp] theorem Work.actOnRelease_out_opened (w : Work) : (w.actOnRelease).opened = w.opened := by
  unfold Work.actOnRelease; dsimp only; repeat' (first | split | rfl)
@[simp] theorem Work.actOnRelease_out_entered (w : Work) : (w.actOnRelease).entered = w.entered := by
  unfold Work.actOnRelease; dsimp only; repeat' (first | split | rfl)
@[simp] theorem Work.actOnRelease_out_protection (w : Work) : (w.actOnRelease).protection = w.protection := by
  unfold Work.actOnRelease; dsimp only; repeat' (first | split | rfl)
@[simp] theorem Work.actOnRelease_out_softDone (w : Work) : (w.actOnRelease).softDone = w.softDone := by
  unfold Work.actOnRelease; dsimp only; repeat' (first | split | rfl)

/-! ### opening -/

@[simp] theorem Work.opening_rstLow (w : Work) : (w.opening).state.rstLow = w.state.rstLow := by
  simp [Work.opening]
@[simp] theorem Work.opening_port (w : Work) : (w.opening).state.port = w.state.port := by
  simp [Work.opening]
@[simp] theorem Work.opening_lanes (w : Work) : (w.opening).state.lanes = w.state.lanes := by
  simp [Work.opening]
@[simp] theorem Work.opening_previousTrig (w : Work) : (w.opening).state.previousTrig = w.state.previousTrig := by
  simp [Work.opening]
@[simp] theorem Work.opening_timebase (w : Work) : (w.opening).state.timebase = w.state.timebase := by
  simp [Work.opening]
@[simp] theorem Work.opening_synth (w : Work) : (w.opening).state.synth = w.state.synth := by
  simp [Work.opening]
@[simp] theorem Work.opening_link (w : Work) : (w.opening).state.link = w.state.link := by
  simp [Work.opening]
@[simp] theorem Work.opening_relays (w : Work) : (w.opening).state.relays = w.state.relays := by
  simp [Work.opening]
@[simp] theorem Work.opening_measure (w : Work) : (w.opening).state.measure = w.state.measure := by
  simp [Work.opening]
@[simp] theorem Work.opening_watches (w : Work) : (w.opening).state.watches = w.state.watches := by
  simp [Work.opening]
@[simp] theorem Work.opening_journal (w : Work) : (w.opening).state.journal = w.state.journal := by
  simp [Work.opening]
@[simp] theorem Work.opening_pending (w : Work) : (w.opening).state.pending = w.state.pending := by
  simp [Work.opening]
@[simp] theorem Work.opening_out_cycleStart (w : Work) : (w.opening).cycleStart = w.cycleStart := by
  simp [Work.opening]
@[simp] theorem Work.opening_out_restart (w : Work) : (w.opening).restart = w.restart := by
  simp [Work.opening]
@[simp] theorem Work.opening_out_advance (w : Work) : (w.opening).advance = w.advance := by
  simp [Work.opening]
@[simp] theorem Work.opening_out_protection (w : Work) : (w.opening).protection = w.protection := by
  simp [Work.opening]
@[simp] theorem Work.opening_out_softDone (w : Work) : (w.opening).softDone = w.softDone := by
  simp [Work.opening]

/-! ### sampleLines -/

@[simp] theorem Work.sampleLines_rstLow (w : Work) (i : SampleInputs) : (w.sampleLines i).state.rstLow = w.state.rstLow := rfl
@[simp] theorem Work.sampleLines_port (w : Work) (i : SampleInputs) : (w.sampleLines i).state.port = w.state.port := rfl
@[simp] theorem Work.sampleLines_lanes (w : Work) (i : SampleInputs) : (w.sampleLines i).state.lanes = w.state.lanes := rfl
@[simp] theorem Work.sampleLines_previousTrig (w : Work) (i : SampleInputs) : (w.sampleLines i).state.previousTrig = w.state.previousTrig := rfl
@[simp] theorem Work.sampleLines_composer (w : Work) (i : SampleInputs) : (w.sampleLines i).state.composer = w.state.composer := rfl
@[simp] theorem Work.sampleLines_timebase (w : Work) (i : SampleInputs) : (w.sampleLines i).state.timebase = w.state.timebase := rfl
@[simp] theorem Work.sampleLines_synth (w : Work) (i : SampleInputs) : (w.sampleLines i).state.synth = w.state.synth := rfl
@[simp] theorem Work.sampleLines_relays (w : Work) (i : SampleInputs) : (w.sampleLines i).state.relays = w.state.relays := rfl
@[simp] theorem Work.sampleLines_measure (w : Work) (i : SampleInputs) : (w.sampleLines i).state.measure = w.state.measure := rfl
@[simp] theorem Work.sampleLines_watches (w : Work) (i : SampleInputs) : (w.sampleLines i).state.watches = w.state.watches := rfl
@[simp] theorem Work.sampleLines_journal (w : Work) (i : SampleInputs) : (w.sampleLines i).state.journal = w.state.journal := rfl
@[simp] theorem Work.sampleLines_pending (w : Work) (i : SampleInputs) : (w.sampleLines i).state.pending = w.state.pending := rfl
@[simp] theorem Work.sampleLines_out_cycleStart (w : Work) (i : SampleInputs) : (w.sampleLines i).cycleStart = w.cycleStart := rfl
@[simp] theorem Work.sampleLines_out_restart (w : Work) (i : SampleInputs) : (w.sampleLines i).restart = w.restart := rfl
@[simp] theorem Work.sampleLines_out_advance (w : Work) (i : SampleInputs) : (w.sampleLines i).advance = w.advance := rfl
@[simp] theorem Work.sampleLines_out_opened (w : Work) (i : SampleInputs) : (w.sampleLines i).opened = w.opened := rfl
@[simp] theorem Work.sampleLines_out_entered (w : Work) (i : SampleInputs) : (w.sampleLines i).entered = w.entered := rfl
@[simp] theorem Work.sampleLines_out_released (w : Work) (i : SampleInputs) : (w.sampleLines i).released = w.released := rfl
@[simp] theorem Work.sampleLines_out_protection (w : Work) (i : SampleInputs) : (w.sampleLines i).protection = w.protection := rfl
@[simp] theorem Work.sampleLines_out_softDone (w : Work) (i : SampleInputs) : (w.sampleLines i).softDone = w.softDone := rfl

/-! ### measure -/

@[simp] theorem Work.measure_rstLow (w : Work) : (w.measure).state.rstLow = w.state.rstLow := rfl
@[simp] theorem Work.measure_control (w : Work) : (w.measure).state.control = w.state.control := rfl
@[simp] theorem Work.measure_port (w : Work) : (w.measure).state.port = w.state.port := rfl
@[simp] theorem Work.measure_lanes (w : Work) : (w.measure).state.lanes = w.state.lanes := rfl
@[simp] theorem Work.measure_previousTrig (w : Work) : (w.measure).state.previousTrig = w.state.previousTrig := rfl
@[simp] theorem Work.measure_composer (w : Work) : (w.measure).state.composer = w.state.composer := rfl
@[simp] theorem Work.measure_timebase (w : Work) : (w.measure).state.timebase = w.state.timebase := rfl
@[simp] theorem Work.measure_link (w : Work) : (w.measure).state.link = w.state.link := rfl
@[simp] theorem Work.measure_relays (w : Work) : (w.measure).state.relays = w.state.relays := rfl
@[simp] theorem Work.measure_watches (w : Work) : (w.measure).state.watches = w.state.watches := rfl
@[simp] theorem Work.measure_journal (w : Work) : (w.measure).state.journal = w.state.journal := rfl
@[simp] theorem Work.measure_window (w : Work) : (w.measure).state.window = w.state.window := rfl
@[simp] theorem Work.measure_pending (w : Work) : (w.measure).state.pending = w.state.pending := rfl
@[simp] theorem Work.measure_out_cycleStart (w : Work) : (w.measure).cycleStart = w.cycleStart := rfl
@[simp] theorem Work.measure_out_restart (w : Work) : (w.measure).restart = w.restart := rfl
@[simp] theorem Work.measure_out_advance (w : Work) : (w.measure).advance = w.advance := rfl
@[simp] theorem Work.measure_out_opened (w : Work) : (w.measure).opened = w.opened := rfl
@[simp] theorem Work.measure_out_entered (w : Work) : (w.measure).entered = w.entered := rfl
@[simp] theorem Work.measure_out_released (w : Work) : (w.measure).released = w.released := rfl
@[simp] theorem Work.measure_out_protection (w : Work) : (w.measure).protection = w.protection := rfl
@[simp] theorem Work.measure_out_softDone (w : Work) : (w.measure).softDone = w.softDone := rfl

/-! ### cycleScan -/

@[simp] theorem Work.cycleScan_rstLow (w : Work) : (w.cycleScan).state.rstLow = w.state.rstLow := by
  unfold Work.cycleScan; split <;> rfl
@[simp] theorem Work.cycleScan_control (w : Work) : (w.cycleScan).state.control = w.state.control := by
  unfold Work.cycleScan; split <;> rfl
@[simp] theorem Work.cycleScan_lanes (w : Work) : (w.cycleScan).state.lanes = w.state.lanes := by
  unfold Work.cycleScan; split <;> rfl
@[simp] theorem Work.cycleScan_previousTrig (w : Work) : (w.cycleScan).state.previousTrig = w.state.previousTrig := by
  unfold Work.cycleScan; split <;> rfl
@[simp] theorem Work.cycleScan_composer (w : Work) : (w.cycleScan).state.composer = w.state.composer := by
  unfold Work.cycleScan; split <;> rfl
@[simp] theorem Work.cycleScan_timebase (w : Work) : (w.cycleScan).state.timebase = w.state.timebase := by
  unfold Work.cycleScan; split <;> rfl
@[simp] theorem Work.cycleScan_synth (w : Work) : (w.cycleScan).state.synth = w.state.synth := by
  unfold Work.cycleScan; split <;> rfl
@[simp] theorem Work.cycleScan_link (w : Work) : (w.cycleScan).state.link = w.state.link := by
  unfold Work.cycleScan; split <;> rfl
@[simp] theorem Work.cycleScan_relays (w : Work) : (w.cycleScan).state.relays = w.state.relays := by
  unfold Work.cycleScan; split <;> rfl
@[simp] theorem Work.cycleScan_measure (w : Work) : (w.cycleScan).state.measure = w.state.measure := by
  unfold Work.cycleScan; split <;> rfl
@[simp] theorem Work.cycleScan_watches (w : Work) : (w.cycleScan).state.watches = w.state.watches := by
  unfold Work.cycleScan; split <;> rfl
@[simp] theorem Work.cycleScan_journal (w : Work) : (w.cycleScan).state.journal = w.state.journal := by
  unfold Work.cycleScan; split <;> rfl
@[simp] theorem Work.cycleScan_window (w : Work) : (w.cycleScan).state.window = w.state.window := by
  unfold Work.cycleScan; split <;> rfl
@[simp] theorem Work.cycleScan_pending (w : Work) : (w.cycleScan).state.pending = w.state.pending := by
  unfold Work.cycleScan; split <;> rfl
@[simp] theorem Work.cycleScan_out_cycleStart (w : Work) : (w.cycleScan).cycleStart = w.cycleStart := by
  unfold Work.cycleScan; split <;> rfl
@[simp] theorem Work.cycleScan_out_restart (w : Work) : (w.cycleScan).restart = w.restart := by
  unfold Work.cycleScan; split <;> rfl
@[simp] theorem Work.cycleScan_out_advance (w : Work) : (w.cycleScan).advance = w.advance := by
  unfold Work.cycleScan; split <;> rfl
@[simp] theorem Work.cycleScan_out_opened (w : Work) : (w.cycleScan).opened = w.opened := by
  unfold Work.cycleScan; split <;> rfl
@[simp] theorem Work.cycleScan_out_entered (w : Work) : (w.cycleScan).entered = w.entered := by
  unfold Work.cycleScan; split <;> rfl
@[simp] theorem Work.cycleScan_out_released (w : Work) : (w.cycleScan).released = w.released := by
  unfold Work.cycleScan; split <;> rfl
@[simp] theorem Work.cycleScan_out_protection (w : Work) : (w.cycleScan).protection = w.protection := by
  unfold Work.cycleScan; split <;> rfl
@[simp] theorem Work.cycleScan_out_softDone (w : Work) : (w.cycleScan).softDone = w.softDone := by
  unfold Work.cycleScan; split <;> rfl

/-! ### act -/

@[simp] theorem Work.act_rstLow (w : Work) (n : EngineState) (f : Flag) (r : Record) (h : List Happening) : (w.act n f r h).state.rstLow = w.state.rstLow := rfl
@[simp] theorem Work.act_port (w : Work) (n : EngineState) (f : Flag) (r : Record) (h : List Happening) : (w.act n f r h).state.port = w.state.port := rfl
@[simp] theorem Work.act_lanes (w : Work) (n : EngineState) (f : Flag) (r : Record) (h : List Happening) : (w.act n f r h).state.lanes = w.state.lanes := rfl
@[simp] theorem Work.act_previousTrig (w : Work) (n : EngineState) (f : Flag) (r : Record) (h : List Happening) : (w.act n f r h).state.previousTrig = w.state.previousTrig := rfl
@[simp] theorem Work.act_timebase (w : Work) (n : EngineState) (f : Flag) (r : Record) (h : List Happening) : (w.act n f r h).state.timebase = w.state.timebase := rfl
@[simp] theorem Work.act_synth (w : Work) (n : EngineState) (f : Flag) (r : Record) (h : List Happening) : (w.act n f r h).state.synth = w.state.synth := rfl
@[simp] theorem Work.act_link (w : Work) (n : EngineState) (f : Flag) (r : Record) (h : List Happening) : (w.act n f r h).state.link = w.state.link := rfl
@[simp] theorem Work.act_relays (w : Work) (n : EngineState) (f : Flag) (r : Record) (h : List Happening) : (w.act n f r h).state.relays = w.state.relays := rfl
@[simp] theorem Work.act_measure (w : Work) (n : EngineState) (f : Flag) (r : Record) (h : List Happening) : (w.act n f r h).state.measure = w.state.measure := rfl
@[simp] theorem Work.act_watches (w : Work) (n : EngineState) (f : Flag) (r : Record) (h : List Happening) : (w.act n f r h).state.watches = w.state.watches := rfl
@[simp] theorem Work.act_journal (w : Work) (n : EngineState) (f : Flag) (r : Record) (h : List Happening) : (w.act n f r h).state.journal = w.state.journal := rfl
@[simp] theorem Work.act_pending (w : Work) (n : EngineState) (f : Flag) (r : Record) (h : List Happening) : (w.act n f r h).state.pending = w.state.pending := rfl
@[simp] theorem Work.act_out_cycleStart (w : Work) (n : EngineState) (f : Flag) (r : Record) (h : List Happening) : (w.act n f r h).cycleStart = w.cycleStart := rfl
@[simp] theorem Work.act_out_restart (w : Work) (n : EngineState) (f : Flag) (r : Record) (h : List Happening) : (w.act n f r h).restart = w.restart := rfl
@[simp] theorem Work.act_out_advance (w : Work) (n : EngineState) (f : Flag) (r : Record) (h : List Happening) : (w.act n f r h).advance = w.advance := rfl
@[simp] theorem Work.act_out_opened (w : Work) (n : EngineState) (f : Flag) (r : Record) (h : List Happening) : (w.act n f r h).opened = w.opened := rfl
@[simp] theorem Work.act_out_entered (w : Work) (n : EngineState) (f : Flag) (r : Record) (h : List Happening) : (w.act n f r h).entered = w.entered := rfl
@[simp] theorem Work.act_out_released (w : Work) (n : EngineState) (f : Flag) (r : Record) (h : List Happening) : (w.act n f r h).released = w.released := rfl
@[simp] theorem Work.act_out_softDone (w : Work) (n : EngineState) (f : Flag) (r : Record) (h : List Happening) : (w.act n f r h).softDone = w.softDone := rfl

/-! ### protect -/

@[simp] theorem Work.protect_rstLow (w : Work) (i : SampleInputs) : (w.protect i).state.rstLow = w.state.rstLow := by
  unfold Work.protect; dsimp only; split <;> rfl
@[simp] theorem Work.protect_port (w : Work) (i : SampleInputs) : (w.protect i).state.port = w.state.port := by
  unfold Work.protect; dsimp only; split <;> rfl
@[simp] theorem Work.protect_lanes (w : Work) (i : SampleInputs) : (w.protect i).state.lanes = w.state.lanes := by
  unfold Work.protect; dsimp only; split <;> rfl
@[simp] theorem Work.protect_previousTrig (w : Work) (i : SampleInputs) : (w.protect i).state.previousTrig = w.state.previousTrig := by
  unfold Work.protect; dsimp only; split <;> rfl
@[simp] theorem Work.protect_timebase (w : Work) (i : SampleInputs) : (w.protect i).state.timebase = w.state.timebase := by
  unfold Work.protect; dsimp only; split <;> rfl
@[simp] theorem Work.protect_synth (w : Work) (i : SampleInputs) : (w.protect i).state.synth = w.state.synth := by
  unfold Work.protect; dsimp only; split <;> rfl
@[simp] theorem Work.protect_link (w : Work) (i : SampleInputs) : (w.protect i).state.link = w.state.link := by
  unfold Work.protect; dsimp only; split <;> rfl
@[simp] theorem Work.protect_relays (w : Work) (i : SampleInputs) : (w.protect i).state.relays = w.state.relays := by
  unfold Work.protect; dsimp only; split <;> rfl
@[simp] theorem Work.protect_measure (w : Work) (i : SampleInputs) : (w.protect i).state.measure = w.state.measure := by
  unfold Work.protect; dsimp only; split <;> rfl
@[simp] theorem Work.protect_watches (w : Work) (i : SampleInputs) : (w.protect i).state.watches = w.state.watches := by
  unfold Work.protect; dsimp only; split <;> rfl
@[simp] theorem Work.protect_journal (w : Work) (i : SampleInputs) : (w.protect i).state.journal = w.state.journal := by
  unfold Work.protect; dsimp only; split <;> rfl
@[simp] theorem Work.protect_pending (w : Work) (i : SampleInputs) : (w.protect i).state.pending = w.state.pending := by
  unfold Work.protect; dsimp only; split <;> rfl
@[simp] theorem Work.protect_out_cycleStart (w : Work) (i : SampleInputs) : (w.protect i).cycleStart = w.cycleStart := by
  unfold Work.protect; dsimp only; split <;> rfl
@[simp] theorem Work.protect_out_restart (w : Work) (i : SampleInputs) : (w.protect i).restart = w.restart := by
  unfold Work.protect; dsimp only; split <;> rfl
@[simp] theorem Work.protect_out_advance (w : Work) (i : SampleInputs) : (w.protect i).advance = w.advance := by
  unfold Work.protect; dsimp only; split <;> rfl
@[simp] theorem Work.protect_out_opened (w : Work) (i : SampleInputs) : (w.protect i).opened = w.opened := by
  unfold Work.protect; dsimp only; split <;> rfl
@[simp] theorem Work.protect_out_entered (w : Work) (i : SampleInputs) : (w.protect i).entered = w.entered := by
  unfold Work.protect; dsimp only; split <;> rfl
@[simp] theorem Work.protect_out_released (w : Work) (i : SampleInputs) : (w.protect i).released = w.released := by
  unfold Work.protect; dsimp only; split <;> rfl
@[simp] theorem Work.protect_out_softDone (w : Work) (i : SampleInputs) : (w.protect i).softDone = w.softDone := by
  unfold Work.protect; dsimp only; split <;> rfl

/-! ### watches -/

@[simp] theorem Work.watches_rstLow (w : Work) (i : SampleInputs) : (w.watches i).state.rstLow = w.state.rstLow := rfl
@[simp] theorem Work.watches_control (w : Work) (i : SampleInputs) : (w.watches i).state.control = w.state.control := rfl
@[simp] theorem Work.watches_port (w : Work) (i : SampleInputs) : (w.watches i).state.port = w.state.port := rfl
@[simp] theorem Work.watches_lanes (w : Work) (i : SampleInputs) : (w.watches i).state.lanes = w.state.lanes := rfl
@[simp] theorem Work.watches_previousTrig (w : Work) (i : SampleInputs) : (w.watches i).state.previousTrig = w.state.previousTrig := rfl
@[simp] theorem Work.watches_composer (w : Work) (i : SampleInputs) : (w.watches i).state.composer = w.state.composer := rfl
@[simp] theorem Work.watches_timebase (w : Work) (i : SampleInputs) : (w.watches i).state.timebase = w.state.timebase := rfl
@[simp] theorem Work.watches_synth (w : Work) (i : SampleInputs) : (w.watches i).state.synth = w.state.synth := rfl
@[simp] theorem Work.watches_link (w : Work) (i : SampleInputs) : (w.watches i).state.link = w.state.link := rfl
@[simp] theorem Work.watches_relays (w : Work) (i : SampleInputs) : (w.watches i).state.relays = w.state.relays := rfl
@[simp] theorem Work.watches_measure (w : Work) (i : SampleInputs) : (w.watches i).state.measure = w.state.measure := rfl
@[simp] theorem Work.watches_journal (w : Work) (i : SampleInputs) : (w.watches i).state.journal = w.state.journal := rfl
@[simp] theorem Work.watches_window (w : Work) (i : SampleInputs) : (w.watches i).state.window = w.state.window := rfl
@[simp] theorem Work.watches_pending (w : Work) (i : SampleInputs) : (w.watches i).state.pending = w.state.pending := rfl
@[simp] theorem Work.watches_out_cycleStart (w : Work) (i : SampleInputs) : (w.watches i).cycleStart = w.cycleStart := rfl
@[simp] theorem Work.watches_out_restart (w : Work) (i : SampleInputs) : (w.watches i).restart = w.restart := rfl
@[simp] theorem Work.watches_out_advance (w : Work) (i : SampleInputs) : (w.watches i).advance = w.advance := rfl
@[simp] theorem Work.watches_out_opened (w : Work) (i : SampleInputs) : (w.watches i).opened = w.opened := rfl
@[simp] theorem Work.watches_out_entered (w : Work) (i : SampleInputs) : (w.watches i).entered = w.entered := rfl
@[simp] theorem Work.watches_out_released (w : Work) (i : SampleInputs) : (w.watches i).released = w.released := rfl
@[simp] theorem Work.watches_out_protection (w : Work) (i : SampleInputs) : (w.watches i).protection = w.protection := rfl
@[simp] theorem Work.watches_out_softDone (w : Work) (i : SampleInputs) : (w.watches i).softDone = w.softDone := rfl

/-! ### advanceRelays -/

@[simp] theorem Work.advanceRelays_rstLow (w : Work) : (w.advanceRelays).state.rstLow = w.state.rstLow := rfl
@[simp] theorem Work.advanceRelays_control (w : Work) : (w.advanceRelays).state.control = w.state.control := rfl
@[simp] theorem Work.advanceRelays_port (w : Work) : (w.advanceRelays).state.port = w.state.port := rfl
@[simp] theorem Work.advanceRelays_lanes (w : Work) : (w.advanceRelays).state.lanes = w.state.lanes := rfl
@[simp] theorem Work.advanceRelays_previousTrig (w : Work) : (w.advanceRelays).state.previousTrig = w.state.previousTrig := rfl
@[simp] theorem Work.advanceRelays_composer (w : Work) : (w.advanceRelays).state.composer = w.state.composer := rfl
@[simp] theorem Work.advanceRelays_timebase (w : Work) : (w.advanceRelays).state.timebase = w.state.timebase := rfl
@[simp] theorem Work.advanceRelays_synth (w : Work) : (w.advanceRelays).state.synth = w.state.synth := rfl
@[simp] theorem Work.advanceRelays_link (w : Work) : (w.advanceRelays).state.link = w.state.link := rfl
@[simp] theorem Work.advanceRelays_measure (w : Work) : (w.advanceRelays).state.measure = w.state.measure := rfl
@[simp] theorem Work.advanceRelays_watches (w : Work) : (w.advanceRelays).state.watches = w.state.watches := rfl
@[simp] theorem Work.advanceRelays_journal (w : Work) : (w.advanceRelays).state.journal = w.state.journal := rfl
@[simp] theorem Work.advanceRelays_window (w : Work) : (w.advanceRelays).state.window = w.state.window := rfl
@[simp] theorem Work.advanceRelays_pending (w : Work) : (w.advanceRelays).state.pending = w.state.pending := rfl
@[simp] theorem Work.advanceRelays_out_cycleStart (w : Work) : (w.advanceRelays).cycleStart = w.cycleStart := rfl
@[simp] theorem Work.advanceRelays_out_restart (w : Work) : (w.advanceRelays).restart = w.restart := rfl
@[simp] theorem Work.advanceRelays_out_advance (w : Work) : (w.advanceRelays).advance = w.advance := rfl
@[simp] theorem Work.advanceRelays_out_opened (w : Work) : (w.advanceRelays).opened = w.opened := rfl
@[simp] theorem Work.advanceRelays_out_entered (w : Work) : (w.advanceRelays).entered = w.entered := rfl
@[simp] theorem Work.advanceRelays_out_released (w : Work) : (w.advanceRelays).released = w.released := rfl
@[simp] theorem Work.advanceRelays_out_protection (w : Work) : (w.advanceRelays).protection = w.protection := rfl
@[simp] theorem Work.advanceRelays_out_softDone (w : Work) : (w.advanceRelays).softDone = w.softDone := rfl

/-! ### lanes -/

@[simp] theorem Work.lanes_rstLow (w : Work) (i : SampleInputs) : (w.lanes i).state.rstLow = w.state.rstLow := rfl
@[simp] theorem Work.lanes_control (w : Work) (i : SampleInputs) : (w.lanes i).state.control = w.state.control := rfl
@[simp] theorem Work.lanes_timebase (w : Work) (i : SampleInputs) : (w.lanes i).state.timebase = w.state.timebase := rfl
@[simp] theorem Work.lanes_synth (w : Work) (i : SampleInputs) : (w.lanes i).state.synth = w.state.synth := rfl
@[simp] theorem Work.lanes_link (w : Work) (i : SampleInputs) : (w.lanes i).state.link = w.state.link := rfl
@[simp] theorem Work.lanes_relays (w : Work) (i : SampleInputs) : (w.lanes i).state.relays = w.state.relays := rfl
@[simp] theorem Work.lanes_measure (w : Work) (i : SampleInputs) : (w.lanes i).state.measure = w.state.measure := rfl
@[simp] theorem Work.lanes_journal (w : Work) (i : SampleInputs) : (w.lanes i).state.journal = w.state.journal := rfl
@[simp] theorem Work.lanes_pending (w : Work) (i : SampleInputs) : (w.lanes i).state.pending = w.state.pending := rfl
@[simp] theorem Work.lanes_out_cycleStart (w : Work) (i : SampleInputs) : (w.lanes i).cycleStart = w.cycleStart := rfl
@[simp] theorem Work.lanes_out_restart (w : Work) (i : SampleInputs) : (w.lanes i).restart = w.restart := rfl
@[simp] theorem Work.lanes_out_advance (w : Work) (i : SampleInputs) : (w.lanes i).advance = w.advance := rfl
@[simp] theorem Work.lanes_out_opened (w : Work) (i : SampleInputs) : (w.lanes i).opened = w.opened := rfl
@[simp] theorem Work.lanes_out_entered (w : Work) (i : SampleInputs) : (w.lanes i).entered = w.entered := rfl
@[simp] theorem Work.lanes_out_released (w : Work) (i : SampleInputs) : (w.lanes i).released = w.released := rfl
@[simp] theorem Work.lanes_out_protection (w : Work) (i : SampleInputs) : (w.lanes i).protection = w.protection := rfl
@[simp] theorem Work.lanes_out_softDone (w : Work) (i : SampleInputs) : (w.lanes i).softDone = w.softDone := rfl

/-! ### frequency -/

@[simp] theorem Work.frequency_rstLow (w : Work) : (w.frequency).state.rstLow = w.state.rstLow := by
  unfold Work.frequency; dsimp only; split <;> rfl
@[simp] theorem Work.frequency_control (w : Work) : (w.frequency).state.control = w.state.control := by
  unfold Work.frequency; dsimp only; split <;> rfl
@[simp] theorem Work.frequency_port (w : Work) : (w.frequency).state.port = w.state.port := by
  unfold Work.frequency; dsimp only; split <;> rfl
@[simp] theorem Work.frequency_lanes (w : Work) : (w.frequency).state.lanes = w.state.lanes := by
  unfold Work.frequency; dsimp only; split <;> rfl
@[simp] theorem Work.frequency_previousTrig (w : Work) : (w.frequency).state.previousTrig = w.state.previousTrig := by
  unfold Work.frequency; dsimp only; split <;> rfl
@[simp] theorem Work.frequency_composer (w : Work) : (w.frequency).state.composer = w.state.composer := by
  unfold Work.frequency; dsimp only; split <;> rfl
@[simp] theorem Work.frequency_synth (w : Work) : (w.frequency).state.synth = w.state.synth := by
  unfold Work.frequency; dsimp only; split <;> rfl
@[simp] theorem Work.frequency_link (w : Work) : (w.frequency).state.link = w.state.link := by
  unfold Work.frequency; dsimp only; split <;> rfl
@[simp] theorem Work.frequency_relays (w : Work) : (w.frequency).state.relays = w.state.relays := by
  unfold Work.frequency; dsimp only; split <;> rfl
@[simp] theorem Work.frequency_measure (w : Work) : (w.frequency).state.measure = w.state.measure := by
  unfold Work.frequency; dsimp only; split <;> rfl
@[simp] theorem Work.frequency_watches (w : Work) : (w.frequency).state.watches = w.state.watches := by
  unfold Work.frequency; dsimp only; split <;> rfl
@[simp] theorem Work.frequency_journal (w : Work) : (w.frequency).state.journal = w.state.journal := by
  unfold Work.frequency; dsimp only; split <;> rfl
@[simp] theorem Work.frequency_window (w : Work) : (w.frequency).state.window = w.state.window := by
  unfold Work.frequency; dsimp only; split <;> rfl
@[simp] theorem Work.frequency_pending (w : Work) : (w.frequency).state.pending = w.state.pending := by
  unfold Work.frequency; dsimp only; split <;> rfl
@[simp] theorem Work.frequency_out_cycleStart (w : Work) : (w.frequency).cycleStart = w.cycleStart := by
  unfold Work.frequency; dsimp only; split <;> rfl
@[simp] theorem Work.frequency_out_restart (w : Work) : (w.frequency).restart = w.restart := by
  unfold Work.frequency; dsimp only; split <;> rfl
@[simp] theorem Work.frequency_out_advance (w : Work) : (w.frequency).advance = w.advance := by
  unfold Work.frequency; dsimp only; split <;> rfl
@[simp] theorem Work.frequency_out_opened (w : Work) : (w.frequency).opened = w.opened := by
  unfold Work.frequency; dsimp only; split <;> rfl
@[simp] theorem Work.frequency_out_entered (w : Work) : (w.frequency).entered = w.entered := by
  unfold Work.frequency; dsimp only; split <;> rfl
@[simp] theorem Work.frequency_out_released (w : Work) : (w.frequency).released = w.released := by
  unfold Work.frequency; dsimp only; split <;> rfl
@[simp] theorem Work.frequency_out_protection (w : Work) : (w.frequency).protection = w.protection := by
  unfold Work.frequency; dsimp only; split <;> rfl
@[simp] theorem Work.frequency_out_softDone (w : Work) : (w.frequency).softDone = w.softDone := by
  unfold Work.frequency; dsimp only; split <;> rfl

/-! ### compose -/

@[simp] theorem Work.compose_rstLow (w : Work) : (w.compose).state.rstLow = w.state.rstLow := rfl
@[simp] theorem Work.compose_control (w : Work) : (w.compose).state.control = w.state.control := rfl
@[simp] theorem Work.compose_port (w : Work) : (w.compose).state.port = w.state.port := rfl
@[simp] theorem Work.compose_lanes (w : Work) : (w.compose).state.lanes = w.state.lanes := rfl
@[simp] theorem Work.compose_previousTrig (w : Work) : (w.compose).state.previousTrig = w.state.previousTrig := rfl
@[simp] theorem Work.compose_timebase (w : Work) : (w.compose).state.timebase = w.state.timebase := rfl
@[simp] theorem Work.compose_synth (w : Work) : (w.compose).state.synth = w.state.synth := rfl
@[simp] theorem Work.compose_link (w : Work) : (w.compose).state.link = w.state.link := rfl
@[simp] theorem Work.compose_relays (w : Work) : (w.compose).state.relays = w.state.relays := rfl
@[simp] theorem Work.compose_measure (w : Work) : (w.compose).state.measure = w.state.measure := rfl
@[simp] theorem Work.compose_watches (w : Work) : (w.compose).state.watches = w.state.watches := rfl
@[simp] theorem Work.compose_journal (w : Work) : (w.compose).state.journal = w.state.journal := rfl
@[simp] theorem Work.compose_window (w : Work) : (w.compose).state.window = w.state.window := rfl
@[simp] theorem Work.compose_pending (w : Work) : (w.compose).state.pending = w.state.pending := rfl
@[simp] theorem Work.compose_out_cycleStart (w : Work) : (w.compose).cycleStart = w.cycleStart := rfl
@[simp] theorem Work.compose_out_restart (w : Work) : (w.compose).restart = w.restart := rfl
@[simp] theorem Work.compose_out_advance (w : Work) : (w.compose).advance = w.advance := rfl
@[simp] theorem Work.compose_out_opened (w : Work) : (w.compose).opened = w.opened := rfl
@[simp] theorem Work.compose_out_entered (w : Work) : (w.compose).entered = w.entered := rfl
@[simp] theorem Work.compose_out_released (w : Work) : (w.compose).released = w.released := rfl
@[simp] theorem Work.compose_out_protection (w : Work) : (w.compose).protection = w.protection := rfl

/-! ### commandRelays -/

@[simp] theorem Work.commandRelays_rstLow (w : Work) : (w.commandRelays).state.rstLow = w.state.rstLow := rfl
@[simp] theorem Work.commandRelays_control (w : Work) : (w.commandRelays).state.control = w.state.control := rfl
@[simp] theorem Work.commandRelays_port (w : Work) : (w.commandRelays).state.port = w.state.port := rfl
@[simp] theorem Work.commandRelays_lanes (w : Work) : (w.commandRelays).state.lanes = w.state.lanes := rfl
@[simp] theorem Work.commandRelays_previousTrig (w : Work) : (w.commandRelays).state.previousTrig = w.state.previousTrig := rfl
@[simp] theorem Work.commandRelays_composer (w : Work) : (w.commandRelays).state.composer = w.state.composer := rfl
@[simp] theorem Work.commandRelays_timebase (w : Work) : (w.commandRelays).state.timebase = w.state.timebase := rfl
@[simp] theorem Work.commandRelays_synth (w : Work) : (w.commandRelays).state.synth = w.state.synth := rfl
@[simp] theorem Work.commandRelays_link (w : Work) : (w.commandRelays).state.link = w.state.link := rfl
@[simp] theorem Work.commandRelays_measure (w : Work) : (w.commandRelays).state.measure = w.state.measure := rfl
@[simp] theorem Work.commandRelays_watches (w : Work) : (w.commandRelays).state.watches = w.state.watches := rfl
@[simp] theorem Work.commandRelays_journal (w : Work) : (w.commandRelays).state.journal = w.state.journal := rfl
@[simp] theorem Work.commandRelays_window (w : Work) : (w.commandRelays).state.window = w.state.window := rfl
@[simp] theorem Work.commandRelays_pending (w : Work) : (w.commandRelays).state.pending = w.state.pending := rfl
@[simp] theorem Work.commandRelays_out_cycleStart (w : Work) : (w.commandRelays).cycleStart = w.cycleStart := rfl
@[simp] theorem Work.commandRelays_out_restart (w : Work) : (w.commandRelays).restart = w.restart := rfl
@[simp] theorem Work.commandRelays_out_advance (w : Work) : (w.commandRelays).advance = w.advance := rfl
@[simp] theorem Work.commandRelays_out_opened (w : Work) : (w.commandRelays).opened = w.opened := rfl
@[simp] theorem Work.commandRelays_out_entered (w : Work) : (w.commandRelays).entered = w.entered := rfl
@[simp] theorem Work.commandRelays_out_released (w : Work) : (w.commandRelays).released = w.released := rfl
@[simp] theorem Work.commandRelays_out_protection (w : Work) : (w.commandRelays).protection = w.protection := rfl
@[simp] theorem Work.commandRelays_out_softDone (w : Work) : (w.commandRelays).softDone = w.softDone := rfl

/-! ### output -/

@[simp] theorem Work.output_rstLow (w : Work) (i : SampleInputs) : (w.output i).state.rstLow = w.state.rstLow := rfl
@[simp] theorem Work.output_control (w : Work) (i : SampleInputs) : (w.output i).state.control = w.state.control := rfl
@[simp] theorem Work.output_port (w : Work) (i : SampleInputs) : (w.output i).state.port = w.state.port := rfl
@[simp] theorem Work.output_previousTrig (w : Work) (i : SampleInputs) : (w.output i).state.previousTrig = w.state.previousTrig := rfl
@[simp] theorem Work.output_composer (w : Work) (i : SampleInputs) : (w.output i).state.composer = w.state.composer := rfl
@[simp] theorem Work.output_timebase (w : Work) (i : SampleInputs) : (w.output i).state.timebase = w.state.timebase := rfl
@[simp] theorem Work.output_relays (w : Work) (i : SampleInputs) : (w.output i).state.relays = w.state.relays := rfl
@[simp] theorem Work.output_measure (w : Work) (i : SampleInputs) : (w.output i).state.measure = w.state.measure := rfl
@[simp] theorem Work.output_watches (w : Work) (i : SampleInputs) : (w.output i).state.watches = w.state.watches := rfl
@[simp] theorem Work.output_journal (w : Work) (i : SampleInputs) : (w.output i).state.journal = w.state.journal := rfl
@[simp] theorem Work.output_window (w : Work) (i : SampleInputs) : (w.output i).state.window = w.state.window := rfl
@[simp] theorem Work.output_pending (w : Work) (i : SampleInputs) : (w.output i).state.pending = w.state.pending := rfl
@[simp] theorem Work.output_out_cycleStart (w : Work) (i : SampleInputs) : (w.output i).cycleStart = w.cycleStart := rfl
@[simp] theorem Work.output_out_restart (w : Work) (i : SampleInputs) : (w.output i).restart = w.restart := rfl
@[simp] theorem Work.output_out_advance (w : Work) (i : SampleInputs) : (w.output i).advance = w.advance := rfl
@[simp] theorem Work.output_out_opened (w : Work) (i : SampleInputs) : (w.output i).opened = w.opened := rfl
@[simp] theorem Work.output_out_entered (w : Work) (i : SampleInputs) : (w.output i).entered = w.entered := rfl
@[simp] theorem Work.output_out_released (w : Work) (i : SampleInputs) : (w.output i).released = w.released := rfl
@[simp] theorem Work.output_out_protection (w : Work) (i : SampleInputs) : (w.output i).protection = w.protection := rfl
@[simp] theorem Work.output_out_softDone (w : Work) (i : SampleInputs) : (w.output i).softDone = w.softDone := rfl

/-! ### report -/

@[simp] theorem Work.report_rstLow (w : Work) : (w.report).state.rstLow = w.state.rstLow := rfl
@[simp] theorem Work.report_port (w : Work) : (w.report).state.port = w.state.port := rfl
@[simp] theorem Work.report_lanes (w : Work) : (w.report).state.lanes = w.state.lanes := rfl
@[simp] theorem Work.report_previousTrig (w : Work) : (w.report).state.previousTrig = w.state.previousTrig := rfl
@[simp] theorem Work.report_composer (w : Work) : (w.report).state.composer = w.state.composer := rfl
@[simp] theorem Work.report_timebase (w : Work) : (w.report).state.timebase = w.state.timebase := rfl
@[simp] theorem Work.report_synth (w : Work) : (w.report).state.synth = w.state.synth := rfl
@[simp] theorem Work.report_link (w : Work) : (w.report).state.link = w.state.link := rfl
@[simp] theorem Work.report_relays (w : Work) : (w.report).state.relays = w.state.relays := rfl
@[simp] theorem Work.report_measure (w : Work) : (w.report).state.measure = w.state.measure := rfl
@[simp] theorem Work.report_watches (w : Work) : (w.report).state.watches = w.state.watches := rfl
@[simp] theorem Work.report_journal (w : Work) : (w.report).state.journal = w.state.journal := rfl
@[simp] theorem Work.report_window (w : Work) : (w.report).state.window = w.state.window := rfl
@[simp] theorem Work.report_pending (w : Work) : (w.report).state.pending = w.state.pending := rfl
@[simp] theorem Work.report_out_cycleStart (w : Work) : (w.report).cycleStart = w.cycleStart := rfl
@[simp] theorem Work.report_out_restart (w : Work) : (w.report).restart = w.restart := rfl
@[simp] theorem Work.report_out_advance (w : Work) : (w.report).advance = w.advance := rfl
@[simp] theorem Work.report_out_opened (w : Work) : (w.report).opened = w.opened := rfl
@[simp] theorem Work.report_out_entered (w : Work) : (w.report).entered = w.entered := rfl
@[simp] theorem Work.report_out_released (w : Work) : (w.report).released = w.released := rfl
@[simp] theorem Work.report_out_protection (w : Work) : (w.report).protection = w.protection := rfl
@[simp] theorem Work.report_out_softDone (w : Work) : (w.report).softDone = w.softDone := rfl

/-! ### enqueue -/

@[simp] theorem Work.enqueue_rstLow (w : Work) : (w.enqueue).state.rstLow = w.state.rstLow := rfl
@[simp] theorem Work.enqueue_control (w : Work) : (w.enqueue).state.control = w.state.control := rfl
@[simp] theorem Work.enqueue_port (w : Work) : (w.enqueue).state.port = w.state.port := rfl
@[simp] theorem Work.enqueue_lanes (w : Work) : (w.enqueue).state.lanes = w.state.lanes := rfl
@[simp] theorem Work.enqueue_previousTrig (w : Work) : (w.enqueue).state.previousTrig = w.state.previousTrig := rfl
@[simp] theorem Work.enqueue_composer (w : Work) : (w.enqueue).state.composer = w.state.composer := rfl
@[simp] theorem Work.enqueue_timebase (w : Work) : (w.enqueue).state.timebase = w.state.timebase := rfl
@[simp] theorem Work.enqueue_synth (w : Work) : (w.enqueue).state.synth = w.state.synth := rfl
@[simp] theorem Work.enqueue_link (w : Work) : (w.enqueue).state.link = w.state.link := rfl
@[simp] theorem Work.enqueue_relays (w : Work) : (w.enqueue).state.relays = w.state.relays := rfl
@[simp] theorem Work.enqueue_measure (w : Work) : (w.enqueue).state.measure = w.state.measure := rfl
@[simp] theorem Work.enqueue_watches (w : Work) : (w.enqueue).state.watches = w.state.watches := rfl
@[simp] theorem Work.enqueue_window (w : Work) : (w.enqueue).state.window = w.state.window := rfl
@[simp] theorem Work.enqueue_pending (w : Work) : (w.enqueue).state.pending = w.state.pending := rfl
@[simp] theorem Work.enqueue_out_cycleStart (w : Work) : (w.enqueue).cycleStart = w.cycleStart := rfl
@[simp] theorem Work.enqueue_out_restart (w : Work) : (w.enqueue).restart = w.restart := rfl
@[simp] theorem Work.enqueue_out_advance (w : Work) : (w.enqueue).advance = w.advance := rfl
@[simp] theorem Work.enqueue_out_opened (w : Work) : (w.enqueue).opened = w.opened := rfl
@[simp] theorem Work.enqueue_out_entered (w : Work) : (w.enqueue).entered = w.entered := rfl
@[simp] theorem Work.enqueue_out_released (w : Work) : (w.enqueue).released = w.released := rfl
@[simp] theorem Work.enqueue_out_protection (w : Work) : (w.enqueue).protection = w.protection := rfl
@[simp] theorem Work.enqueue_out_softDone (w : Work) : (w.enqueue).softDone = w.softDone := rfl

end Sys2Proof.Machine
end

