-- ==== Sys2Proof/Laws/Sample.lean ====
section
/-! SUPPORT. A sample event at which no transaction reaches the wait limit, stage by stage: the work after the tick, the
opening, the measurement, the protection and the lanes, and each block of the final state by the state before. -/

namespace Sys2Proof.Machine

theorem sampleWork_eq (i : SampleInputs) (s : State) (h : s.rstLow = false) :
    sampleWork i s = ((({ state := s } : Work).settle i).perform i).close i := by
  simp [sampleWork, h]

theorem sampleRow_of_happened (h : Happening) (i : SampleInputs) (s : State)
    (hh : h ∈ (sampleWork i s).happened) : sampleRow h i s = .next (sampleWork i s).state := by
  simp [sampleRow, hh]

theorem tick_waitTimer_expired (s : State) (h : s.noExpiry = true) :
    ({ state := s } : Work).tick.waitTimer.expired = false := by
  unfold State.noExpiry at h
  simp only [Work.expired, Work.waitTimer, Work.tick_port]
  cases hs : s.port.slot with
  | none => simp
  | some t => rw [hs] at h; simp [waitLimit] at h ⊢; omega

/-- The work of a sample event up to the protection, no transaction expiring. -/
theorem settle_quiet (i : SampleInputs) (s : State) (h : s.noExpiry = true) :
    ({ state := s } : Work).settle i =
      (((({ state := s } : Work).tick.waitTimer.opening.sampleLines i).measure).cycleScan).protect i := by
  have hx : ({ state := s } : Work).tick.waitTimer.expire i.expiryFirst = ({ state := s } : Work).tick.waitTimer := by
    simp [Work.expire, tick_waitTimer_expired s h]
  have hd : ({ state := s } : Work).tick.waitTimer.dropHead true = ({ state := s } : Work).tick.waitTimer := by
    simp [Work.dropHead, Work.tick, Work.waitTimer]
  rw [Work.settle, hx, hd]

/-! ### The opening -/

@[simp] theorem requestScan_slot (p : Port) : p.requestScan.slot = p.slot := by
  unfold Port.requestScan; split <;> [split; skip] <;> simp_all

@[simp] theorem cycleScan_slot (w : Work) : w.cycleScan.state.port.slot = w.state.port.slot := by
  unfold Work.cycleScan; split <;> simp

theorem protect_dropsHead (w : Work) (i : SampleInputs) : (w.protect i).dropsHead = w.dropsHead := by
  unfold Work.protect Work.act; split <;> rfl

theorem cycleScan_dropsHead (w : Work) : (w.cycleScan).dropsHead = w.dropsHead := by
  unfold Work.cycleScan; split <;> rfl

theorem opening_dropsHead (w : Work) : (w.opening).dropsHead = w.dropsHead := by
  unfold Work.opening Work.actOnRelease Work.enterProgress
  dsimp only
  repeat' (first | rfl | split)

theorem perform_dropsHead (w : Work) (i : SampleInputs) : (w.perform i).dropsHead = w.dropsHead := by
  unfold Work.perform Work.output Work.commandRelays Work.compose Work.frequency Work.lanes Work.advanceRelays
      Work.watches
  dsimp only
  repeat' (first | rfl | split)

theorem close_quiet (i : SampleInputs) (s : State) (h : s.noExpiry = true) :
    ((({ state := s } : Work).settle i).perform i).close i =
      (((({ state := s } : Work).settle i).perform i).report).enqueue := by
  have hd : ((({ state := s } : Work).settle i).perform i).dropsHead = false := by
    rw [perform_dropsHead, settle_quiet i s h, protect_dropsHead, cycleScan_dropsHead]
    exact opening_dropsHead _
  have he : ((({ state := s } : Work).settle i).perform i).report.expired = false := by
    have hq : ((({ state := s } : Work).settle i).perform i).report.state.port.slot =
       ((s.port.slot.map fun t => { t with timer := t.timer + 1 }).map fun t =>
           { t with kind := t.kind.unwanted fun k =>
          (getLane (lanesWork (tabLane ((((({ state := s } : Work).settle i).watches i).advanceRelays).sampleEnv i))
              (({ state := s } : Work).settle i).state.lanes) k).discards }) := by
      simp only [Work.perform, Work.report_port, Work.output_port, Work.commandRelays_port, Work.compose_port,
          Work.frequency_port]
      simp only [Work.lanes, Port.discardFetches]
      simp
      rw [settle_quiet i s h]
      simp [Work.waitTimer]
    unfold Work.expired
    rw [hq]
    unfold State.noExpiry at h
    cases hs : s.port.slot with
    | none => simp
    | some t => rw [hs] at h; simp [waitLimit] at h ⊢; omega
  have hx : ((({ state := s } : Work).settle i).perform i).report.expire (!i.expiryFirst) =
     ((({ state := s } : Work).settle i).perform i).report := by
    simp [Work.expire, he]
  simp only [Work.close, hx]
  have : ((({ state := s } : Work).settle i).perform i).report.enqueue.dropsHead = false := hd
  simp [Work.dropHead, this]

theorem sampleWork_quiet (i : SampleInputs) (s : State) (h : s.rstLow = false) (hq : s.noExpiry = true) :
    sampleWork i s = (((({ state := s } : Work).settle i).perform i).report).enqueue := by
  rw [sampleWork_eq i s h, close_quiet i s hq]

/-- The work of a sample event once the Timebase and the wait timer have taken it. -/
def tickedWork (s : State) : Work := ({ state := s } : Work).tick.waitTimer

/-! ### The state after the tick -/
section
variable (i : SampleInputs) (s : State)

@[simp] theorem tickedWork_out_cycleStart : (tickedWork s).cycleStart = s.cycleStartDue := rfl
@[simp] theorem tickedWork_out_restart : (tickedWork s).restart = decide (s.timebase.restartDue ≠ .none) := rfl
@[simp] theorem tickedWork_out_advance : (tickedWork s).advance = s.incrementDue := rfl
@[simp] theorem tickedWork_timebase : (tickedWork s).state.timebase = s.timebase.tick s.control.mode := rfl
@[simp] theorem tickedWork_control : (tickedWork s).state.control = s.control := rfl
@[simp] theorem tickedWork_lanes : (tickedWork s).state.lanes = s.lanes := rfl
@[simp] theorem tickedWork_composer : (tickedWork s).state.composer = s.composer := rfl
@[simp] theorem tickedWork_measure : (tickedWork s).state.measure = s.measure := rfl
@[simp] theorem tickedWork_synth : (tickedWork s).state.synth = s.synth := rfl
@[simp] theorem tickedWork_link : (tickedWork s).state.link = s.link := rfl
@[simp] theorem tickedWork_relays : (tickedWork s).state.relays = s.relays := rfl
@[simp] theorem tickedWork_watches : (tickedWork s).state.watches = s.watches := rfl
@[simp] theorem tickedWork_journal : (tickedWork s).state.journal = s.journal := rfl
@[simp] theorem tickedWork_window : (tickedWork s).state.window = s.window := rfl
@[simp] theorem tickedWork_previousTrig : (tickedWork s).state.previousTrig = s.previousTrig := rfl
@[simp] theorem tickedWork_pending : (tickedWork s).state.pending = s.pending := rfl
@[simp] theorem tickedWork_rstLow : (tickedWork s).state.rstLow = s.rstLow := rfl

theorem enterProgress_engine (w : Work) : w.enterProgress.state.control.engine = w.state.enteredState := by
  unfold Work.enterProgress State.enteredState
  dsimp only
  split <;> simp_all

theorem enterProgress_pendingRelease (w : Work) : w.enterProgress.state.control.pendingRelease
    = w.state.control.pendingRelease := by
  unfold Work.enterProgress
  dsimp only
  split <;> simp_all

theorem releasable_eq (e : EngineState) : e.releasable = (e == .closing || e == .softstart || e == .running) := by
  cases e <;> rfl

theorem actOnRelease_engine (w : Work) : w.actOnRelease.state.control.engine =
    if w.state.control.pendingRelease && w.state.control.engine.releasable then .releasing else
        w.state.control.engine := by
  unfold Work.actOnRelease; dsimp only; repeat' (first | (simp_all; done) | split)

theorem actOnRelease_released (w : Work) : w.actOnRelease.released =
    (w.released || (w.state.control.pendingRelease && w.state.control.engine.releasable)) := by
  unfold Work.actOnRelease; dsimp only; repeat' (first | (simp_all; done) | split)

theorem opening_engine (w : Work) : w.opening.state.control.engine = w.state.openedState := by
  simp only [Work.opening]
  rw [actOnRelease_engine, enterProgress_engine, enterProgress_pendingRelease, releasable_eq]; rfl

theorem opening_opened (w : Work) : w.opening.opened = w.state.openedState := by
  rw [← opening_engine]; rfl

theorem opening_released (w : Work) (h : w.released = false) : w.opening.released = w.state.releaseDue := by
  have : w.enterProgress.released = false := by unfold Work.enterProgress; dsimp only; split <;> exact h
  simp only [Work.opening]
  rw [actOnRelease_released, enterProgress_engine, enterProgress_pendingRelease, releasable_eq, this]; rfl

theorem opening_entered (w : Work) (h : w.entered = false) : w.opening.entered = decide (w.state.control.progress
    = .softstart) := by
  simp only [Work.opening]
  have : w.enterProgress.entered = decide (w.state.control.progress = .softstart) := by
    unfold Work.enterProgress; dsimp only; split <;> simp_all
  rw [← this]
  unfold Work.actOnRelease; dsimp only; repeat' (first | rfl | split)

theorem openedState_congr {a b : State} (h : a.control = b.control) : a.openedState = b.openedState := by
  unfold State.openedState State.releaseDue State.enteredState; rw [h]

theorem releaseDue_congr {a b : State} (h : a.control = b.control) : a.releaseDue = b.releaseDue := by
  unfold State.releaseDue State.enteredState; rw [h]

/-- The work once the opening has entered progress and acted on a RELEASE (R149). -/
def openedWork (s : State) : Work := (tickedWork s).opening

@[simp] theorem openedWork_opened : (openedWork s).opened = s.openedState := by
  rw [openedWork, opening_opened]; exact openedState_congr rfl

@[simp] theorem openedWork_engine : (openedWork s).state.control.engine = s.openedState := by
  rw [openedWork, opening_engine]; exact openedState_congr rfl

@[simp] theorem openedWork_released : (openedWork s).released = s.releaseDue := by
  rw [openedWork, opening_released _ rfl]; exact releaseDue_congr rfl

@[simp] theorem openedWork_entered : (openedWork s).entered = decide (s.control.progress = .softstart) := by
  rw [openedWork, opening_entered _ rfl]; rfl

/-- The work once the lines are sampled and the measurement is taken, before any protection. -/
def measuredWork (i : SampleInputs) (s : State) : Work := (((openedWork s).sampleLines i).measure).cycleScan

theorem settle_measuredWork (h : s.noExpiry = true) : ({ state := s } : Work).settle i
    = (measuredWork i s).protect i := settle_quiet i s h

@[simp] theorem mode_enterProgress (w : Work) : w.enterProgress.state.control.mode = w.state.control.mode := by
  unfold Work.enterProgress; dsimp only; split <;> rfl

@[simp] theorem mode_actOnRelease (w : Work) : w.actOnRelease.state.control.mode = w.state.control.mode := by
  unfold Work.actOnRelease; dsimp only; repeat' (first | rfl | split)

@[simp] theorem openedWork_mode : (openedWork s).state.control.mode = s.control.mode := by
  simp [openedWork, Work.opening]

@[simp] theorem measuredWork_mode : (measuredWork i s).state.control.mode = s.control.mode := by
  simp [measuredWork, Work.measure, Work.sampleLines]

@[simp] theorem measuredWork_engine : (measuredWork i s).state.control.engine = s.openedState := by
  simp [measuredWork, Work.measure, Work.sampleLines]

@[simp] theorem measuredWork_opened : (measuredWork i s).opened = s.openedState := by
  simp [measuredWork]

@[simp] theorem openedWork_timebase : (openedWork s).state.timebase
    = s.timebase.tick s.control.mode := by simp [openedWork]
@[simp] theorem openedWork_lanes : (openedWork s).state.lanes = s.lanes := by simp [openedWork]
@[simp] theorem openedWork_measure : (openedWork s).state.measure = s.measure := by simp [openedWork]
@[simp] theorem openedWork_synth : (openedWork s).state.synth = s.synth := by simp [openedWork]
@[simp] theorem openedWork_link : (openedWork s).state.link = s.link := by simp [openedWork]
@[simp] theorem openedWork_relays : (openedWork s).state.relays = s.relays := by simp [openedWork]
@[simp] theorem openedWork_watches : (openedWork s).state.watches = s.watches := by simp [openedWork]
@[simp] theorem openedWork_journal : (openedWork s).state.journal = s.journal := by simp [openedWork]
@[simp] theorem openedWork_previousTrig : (openedWork s).state.previousTrig = s.previousTrig := by simp [openedWork]
@[simp] theorem openedWork_pending : (openedWork s).state.pending = s.pending := by simp [openedWork]
@[simp] theorem openedWork_rstLow : (openedWork s).state.rstLow = s.rstLow := by simp [openedWork]
@[simp] theorem openedWork_port : (openedWork s).state.port = (tickedWork s).state.port := by simp [openedWork]
@[simp] theorem openedWork_out_cycleStart : (openedWork s).cycleStart = s.cycleStartDue := by simp [openedWork]
@[simp] theorem openedWork_out_restart : (openedWork s).restart
    = decide (s.timebase.restartDue ≠ .none) := by simp [openedWork]
@[simp] theorem openedWork_out_advance : (openedWork s).advance = s.incrementDue := by simp [openedWork]

@[simp] theorem openedWork_protection : (openedWork s).protection = false := by simp [openedWork, tickedWork]
@[simp] theorem measuredWork_protection : (measuredWork i s).protection = false := by simp [measuredWork]
@[simp] theorem measuredWork_released : (measuredWork i s).released = s.releaseDue := by simp [measuredWork]
@[simp] theorem measuredWork_entered : (measuredWork i s).entered = decide (s.control.progress
    = .softstart) := by simp [measuredWork]

theorem measuredWork_measure : (measuredWork i s).state.measure =
    (s.measure.sample s.control.mode s.openedState.live s.cycleStartDue (decide
        (s.timebase.restartDue ≠ .none)) s.synth.cycleClips).afterSummary s.cycleStartDue (decide (s.openedState
        = .running)) := by
  simp [measuredWork, Work.measure, Work.sampleLines]

@[simp] theorem measuredWork_timebase : (measuredWork i s).state.timebase
    = s.timebase.tick s.control.mode := by simp [measuredWork]
@[simp] theorem measuredWork_lanes : (measuredWork i s).state.lanes = s.lanes := by simp [measuredWork]
@[simp] theorem measuredWork_link : (measuredWork i s).state.link
    = s.link.sampleLines i.ready i.fault := by simp [measuredWork, Work.measure, Work.sampleLines]
@[simp] theorem measuredWork_relays : (measuredWork i s).state.relays = s.relays := by simp [measuredWork]
@[simp] theorem measuredWork_watches : (measuredWork i s).state.watches = s.watches := by simp [measuredWork]
@[simp] theorem measuredWork_journal : (measuredWork i s).state.journal = s.journal := by simp [measuredWork]
@[simp] theorem measuredWork_previousTrig : (measuredWork i s).state.previousTrig
    = s.previousTrig := by simp [measuredWork]
@[simp] theorem measuredWork_pending : (measuredWork i s).state.pending = s.pending := by simp [measuredWork]
@[simp] theorem measuredWork_rstLow : (measuredWork i s).state.rstLow = s.rstLow := by simp [measuredWork]
@[simp] theorem measuredWork_composer : (measuredWork i s).state.composer
    = (openedWork s).state.composer := by simp [measuredWork]
@[simp] theorem measuredWork_out_cycleStart : (measuredWork i s).cycleStart
    = s.cycleStartDue := by simp [measuredWork]
@[simp] theorem measuredWork_out_restart : (measuredWork i s).restart
    = decide (s.timebase.restartDue ≠ .none) := by simp [measuredWork]
@[simp] theorem measuredWork_out_advance : (measuredWork i s).advance = s.incrementDue := by simp [measuredWork]

theorem protect_none (w : Work) (h : w.protectionTaken i = none) : w.protect i = w := by
  unfold Work.protect; rw [h]

/-- A phase trips after the detector's work exactly where its run count was one short before (R141). -/
theorem mem_detect (m : Measure) (mode : BitVec 2) (live : Bool) (x : Phase) (h1 : 1 ≤ m.tripCount) :
    (live && present mode x && decide (m.tripCount ≤ getPhase (m.detect mode live).runCount x)) =
      (live && present mode x && decide (m.tripCode ≤ (getPhase m.lastGood.i x).natAbs) &&
        decide (m.tripCount ≤ getPhase m.runCount x + 1)) := by
  cases live
  · simp
  · cases hp : present mode x
    · simp
    · simp only [Measure.detect, getPhase_tabPhase, Measure.over, Bool.true_and, hp, magnitude]
      by_cases hc : m.tripCode ≤ (getPhase m.lastGood.i x).natAbs
      · simp only [hc, decide_true, ↓reduceIte, Bool.true_and]
        split <;> first | (simp; done) | (simp; omega)
      · simp [hc]; omega

theorem measured_facts (m : Measure) (mode : BitVec 2) (live cs rs : Bool) (clips : PerPhase Nat) (b : Bool) :
    ((m.sample mode live cs rs clips).afterSummary cs b).tripCount = m.tripCount ∧
    ((m.sample mode live cs rs clips).afterSummary cs b).tripCode = m.tripCode ∧
    ((m.sample mode live cs rs clips).afterSummary cs b).lastGood = m.holder.getD m.lastGood ∧
    ((m.sample mode live cs rs clips).afterSummary cs b).holder = none ∧
    ((m.sample mode live cs rs clips).afterSummary cs b).summaryPeriod = m.summaryPeriod ∧
    ((m.sample mode live cs rs clips).afterSummary cs b).currentFloor = m.currentFloor ∧
    ((m.sample mode live cs rs clips).afterSummary cs b).liveStale =
      (if live && m.holder.isNone then min (m.liveStale + 1) 256 else 0) ∧
    (∀ x, getPhase ((m.sample mode live cs rs clips).afterSummary cs b).runCount x =
      getPhase ((((m.atSample cs rs clips).take live).accumulate).detect mode live).runCount x) ∧
    (∀ x, getPhase ((m.sample mode live cs rs clips).afterSummary cs b).runPeak x =
      if live && present mode x && decide (m.tripCode ≤ (getPhase (m.holder.getD m.lastGood).i x).natAbs) then
        max (getPhase m.runPeak x) (getPhase (m.holder.getD m.lastGood).i x).natAbs else 0)
      := by
  simp [Measure.sample]
  intro x
  simp [Measure.detect, Measure.over, magnitude]

theorem measuredWork_trips (x : Phase) (h1 : 1 ≤ s.measure.tripCount) :
    (s.openedState.live && present s.control.mode x &&
      decide ((measuredWork i s).state.measure.tripCount ≤ getPhase (measuredWork i s).state.measure.runCount x))
          = s.tripsOn x := by
  have hm := measuredWork_measure i s
  obtain ⟨a1, a2, a3, a4, a5, a6, a7, a8, a9⟩ := measured_facts s.measure s.control.mode s.openedState.live
      s.cycleStartDue
    (decide (s.timebase.restartDue ≠ .none)) s.synth.cycleClips (decide (s.openedState = .running))
  rw [hm, a8, a1]
  have e := mem_detect (((s.measure.atSample s.cycleStartDue (decide
      (s.timebase.restartDue ≠ .none)) s.synth.cycleClips).take s.openedState.live).accumulate) s.control.mode
      s.openedState.live x
  have t1 : (((s.measure.atSample s.cycleStartDue (decide
      (s.timebase.restartDue ≠ .none)) s.synth.cycleClips).take s.openedState.live).accumulate).tripCount
      = s.measure.tripCount := by simp
  have t2 : (((s.measure.atSample s.cycleStartDue (decide
      (s.timebase.restartDue ≠ .none)) s.synth.cycleClips).take s.openedState.live).accumulate).tripCode
      = s.measure.tripCode := by simp
  have t3 : (((s.measure.atSample s.cycleStartDue (decide
      (s.timebase.restartDue ≠ .none)) s.synth.cycleClips).take s.openedState.live).accumulate).lastGood
      = s.sampleCodes := by simp [State.sampleCodes]
  have t4 : getPhase (((s.measure.atSample s.cycleStartDue (decide
      (s.timebase.restartDue ≠ .none)) s.synth.cycleClips).take s.openedState.live).accumulate).runCount x
      = getPhase s.measure.runCount x := by
    simp
  rw [t1, t2, t3, t4] at e
  exact e h1

theorem measuredWork_presents (h1 : 1 ≤ s.measure.tripCount) (p : Protection) : (measuredWork i s).presents i p
    = match p with
    | .trip => s.tripReported
    | .fault => s.faultActedOn i
    | .measLost => s.measurementLost := by
  cases p
  · simp only [Work.presents, Measure.tripReport, allPhases, measuredWork_opened, measuredWork_mode]
    simp only [Option.isSome_map]
    simp only [measuredWork_trips _ _ _ h1, State.tripReported]
    cases ha : s.tripsOn .A <;> cases hb : s.tripsOn .B <;> cases hc : s.tripsOn .C <;> simp [List.find?, ha, hb, hc]
  · simp [Work.presents, State.faultActedOn]
  · simp only [Work.presents, Measure.lost, measuredWork_opened, State.measurementLost]
    have hm := measuredWork_measure i s
    obtain ⟨a1, a2, a3, a4, a5, a6, a7, a8, a9⟩ := measured_facts s.measure s.control.mode s.openedState.live
        s.cycleStartDue
      (decide (s.timebase.restartDue ≠ .none)) s.synth.cycleClips (decide (s.openedState = .running))
    rw [hm, a7]
    cases s.openedState.live <;> cases s.measure.holder <;> simp

theorem measuredWork_protectionTaken (h1 : 1 ≤ s.measure.tripCount) : (measuredWork i s).protectionTaken i
    = s.protectionDue i := by
  unfold Work.protectionTaken State.protectionDue
  congr 1
  funext p
  exact (measuredWork_presents i s h1 p).trans (by cases p <;> rfl)

theorem protectionDue_none : s.protectionDue i = none ↔ s.unprotected i = true := by
  unfold State.protectionDue State.unprotected
  rw [List.find?_eq_none]
  cases i.order <;> simp [orderOf] <;> tauto

/-- The work once the protection has been acted on (R158). -/
def settledWork (i : SampleInputs) (s : State) : Work := (measuredWork i s).protect i

theorem sampleWork_settledWork (h : s.rstLow = false) (hq : s.noExpiry = true) :
    sampleWork i s = ((settledWork i s).perform i).report.enqueue := by
  rw [sampleWork_quiet i s h hq, settle_measuredWork i s hq]; rfl

theorem settledWork_unprotected (h1 : 1 ≤ s.measure.tripCount) (hu : s.unprotected i = true) : settledWork i s
    = measuredWork i s :=
  protect_none _ _ (by rw [measuredWork_protectionTaken i s h1, protectionDue_none]; exact hu)

theorem settledWork_engine (h1 : 1 ≤ s.measure.tripCount) : (settledWork i s).state.control.engine =
    match s.protectionDue i with
    | none => s.openedState
    | some .trip => .tripped
    | some .fault => .faulted
    | some .measLost => .faulted := by
  unfold settledWork Work.protect
  rw [measuredWork_protectionTaken i s h1]
  cases s.protectionDue i with
  | none => simp
  | some p => cases p <;> rfl

theorem settledWork_protection (h1 : 1 ≤ s.measure.tripCount) : (settledWork i s).protection = !s.unprotected i := by
  unfold settledWork Work.protect
  rw [measuredWork_protectionTaken i s h1]
  cases h : s.protectionDue i with
  | none => have := (protectionDue_none i s).1 h; simp [this]
  | some p =>
    have : s.unprotected i = false := by
      rw [← Bool.not_eq_true, ← protectionDue_none, h]; simp
    cases p <;> simp [this, Work.act]

@[simp] theorem protect_out_markerRequest (w : Work) : (w.protect i).opened = w.opened := by
  unfold Work.protect Work.act; split <;> rfl

@[simp] theorem settledWork_mode : (settledWork i s).state.control.mode = s.control.mode := by
  unfold settledWork Work.protect; split <;> simp [Work.act]

@[simp] theorem settledWork_timebase : (settledWork i s).state.timebase
    = s.timebase.tick s.control.mode := by simp [settledWork]
@[simp] theorem settledWork_lanes : (settledWork i s).state.lanes = s.lanes := by simp [settledWork]
@[simp] theorem settledWork_link : (settledWork i s).state.link
    = s.link.sampleLines i.ready i.fault := by simp [settledWork]
@[simp] theorem settledWork_relays : (settledWork i s).state.relays = s.relays := by simp [settledWork]
@[simp] theorem settledWork_watches : (settledWork i s).state.watches = s.watches := by simp [settledWork]
@[simp] theorem settledWork_journal : (settledWork i s).state.journal = s.journal := by simp [settledWork]
@[simp] theorem settledWork_previousTrig : (settledWork i s).state.previousTrig
    = s.previousTrig := by simp [settledWork]
@[simp] theorem settledWork_pending : (settledWork i s).state.pending = s.pending := by simp [settledWork]
@[simp] theorem settledWork_rstLow : (settledWork i s).state.rstLow = s.rstLow := by simp [settledWork]
@[simp] theorem settledWork_measure : (settledWork i s).state.measure
    = (measuredWork i s).state.measure := by simp [settledWork]
@[simp] theorem settledWork_port : (settledWork i s).state.port
    = (measuredWork i s).state.port := by simp [settledWork]
@[simp] theorem settledWork_synth : (settledWork i s).state.synth
    = (measuredWork i s).state.synth := by simp [settledWork]
@[simp] theorem settledWork_out_cycleStart : (settledWork i s).cycleStart = s.cycleStartDue := by simp [settledWork]
@[simp] theorem settledWork_out_restart : (settledWork i s).restart
    = decide (s.timebase.restartDue ≠ .none) := by simp [settledWork]
@[simp] theorem settledWork_out_advance : (settledWork i s).advance = s.incrementDue := by simp [settledWork]
@[simp] theorem settledWork_out_opened : (settledWork i s).opened = s.openedState := by simp [settledWork]
@[simp] theorem settledWork_out_released : (settledWork i s).released = s.releaseDue := by simp [settledWork]
@[simp] theorem settledWork_out_entered : (settledWork i s).entered = decide (s.control.progress
    = .softstart) := by simp [settledWork]
end

section
variable (i : SampleInputs) (s : State)

/-- The whole work of a sample event at which no transaction reaches the wait limit. -/
def finalWork (i : SampleInputs) (s : State) : Work := ((settledWork i s).perform i).report.enqueue

theorem sampleWork_finalWork (h : s.rstLow = false) (hq : s.noExpiry = true) : sampleWork i s
    = finalWork i s := sampleWork_settledWork i s h hq

theorem frequency_timebase (w : Work) : w.frequency.state.timebase =
    if w.cycleStart then w.state.timebase.applyFrequency
        (w.state.composer.freqOwner w.state.lanes) else w.state.timebase := by
  unfold Work.frequency; split <;> rfl

@[simp] theorem perform_control (w : Work) : (w.perform i).state.control = w.state.control := by simp [Work.perform]

@[simp] theorem perform_timebase_of (w : Work) (h : w.cycleStart = false) : (w.perform i).state.timebase
    = w.state.timebase := by
  simp [Work.perform, frequency_timebase, h]

theorem perform_timebase (w : Work) : (w.perform i).state.timebase =
   { w.state.timebase with
      frequency := (w.perform i).state.timebase.frequency, increment := (w.perform i).state.timebase.increment } := by
  cases h : w.cycleStart <;> simp [Work.perform, frequency_timebase, h, Timebase.applyFrequency]

@[simp] theorem perform_measure (w : Work) : (w.perform i).state.measure = w.state.measure := by simp [Work.perform]
@[simp] theorem perform_out_opened (w : Work) : (w.perform i).opened = w.opened := by simp [Work.perform]

theorem finalWork_control : (finalWork i s).state.control
    = { (settledWork i s).state.control with progress := ((settledWork i s).perform i).progressDue } := by
  simp [finalWork, Work.report]

theorem finalWork_engine : (finalWork i s).state.control.engine = (settledWork i s).state.control.engine := by
  simp [finalWork_control]

@[simp] theorem enterProgress_deferred (w : Work) : w.enterProgress.state.control.deferredClear =
   (w.state.control.deferredClear && !(w.state.control.progress == .standby && w.state.control.engine == .tripped))
       := by
  unfold Work.enterProgress; dsimp only; split <;> simp_all
  by_cases hh : w.state.control.engine = .tripped <;> simp [hh]

theorem actOnRelease_pending (w : Work) : w.actOnRelease.state.control.pendingRelease = false := by
  unfold Work.actOnRelease; dsimp only; repeat' (first | (simp_all; done) | split)

theorem actOnRelease_deferred (w : Work) : w.actOnRelease.state.control.deferredClear
    = w.state.control.deferredClear := by
  unfold Work.actOnRelease; dsimp only; repeat' (first | (simp_all; done) | split)

@[simp] theorem openedWork_pendingRelease : (openedWork s).state.control.pendingRelease = false := by
  simp [openedWork, Work.opening, actOnRelease_pending]

@[simp] theorem openedWork_deferred : (openedWork s).state.control.deferredClear =
   (s.control.deferredClear && !(s.control.progress == .standby && s.control.engine == .tripped)) := by
  simp [openedWork, Work.opening, actOnRelease_deferred]

@[simp] theorem measuredWork_control : (measuredWork i s).state.control
    = { (openedWork s).state.control with previousFault := i.fault } := by
  simp [measuredWork, Work.measure, Work.sampleLines]

theorem protect_control (w : Work) : (w.protect i).state.control
    = { w.state.control with engine := (w.protect i).state.control.engine } := by
  unfold Work.protect Work.act; split <;> rfl

theorem settledWork_control : (settledWork i s).state.control
    = { (openedWork s).state.control with
        previousFault := i.fault, engine := (settledWork i s).state.control.engine } := by
  rw [settledWork, protect_control]; simp

theorem allPresent_iff (mode : BitVec 2) (rs : Relays) (st : RelayState) : allPresent mode rs st = true ↔
   ∀ x, present mode x = true → (getPhase rs.relay x).state = st := by
  unfold allPresent
  simp only [List.all_eq_true, Bool.or_eq_true, Bool.not_eq_true', decide_eq_true_eq]
  constructor
  · intro h x hx; rcases h x (mem_allPhases x) with h' | h'
    · simp [hx] at h'
    · exact h'
  · intro h x _
    cases hp : present mode x <;> simp; exact h x hp

theorem perform_softDone (w : Work) : (w.perform i).softDone
    = (w.perform i).state.composer.softDone (w.perform i).state.control.engine := by
  simp only [Work.perform, Work.output_control, Work.output_composer, Work.commandRelays_control,
      Work.commandRelays_composer, Work.compose_control, Work.output_out_softDone, Work.commandRelays_out_softDone]
  simp only [Work.compose, Composer.softDone, Composer.compose]
  split <;> rfl
end

section
variable (i : SampleInputs) (s : State) (w : Work)

/-- The work once the watches, the relays and the lanes have taken the sample. -/
def lanedWork (i : SampleInputs) (w : Work) : Work := ((w.watches i).advanceRelays).lanes i

@[simp] theorem lanedWork_control : (lanedWork i w).state.control = w.state.control := by simp [lanedWork]
@[simp] theorem lanedWork_timebase : (lanedWork i w).state.timebase = w.state.timebase := by simp [lanedWork]
@[simp] theorem lanedWork_link : (lanedWork i w).state.link = w.state.link := by simp [lanedWork]
@[simp] theorem lanedWork_synth : (lanedWork i w).state.synth = w.state.synth := by simp [lanedWork]
@[simp] theorem lanedWork_measure : (lanedWork i w).state.measure = w.state.measure := by simp [lanedWork]
@[simp] theorem lanedWork_out_entered : (lanedWork i w).entered = w.entered := by simp [lanedWork]
@[simp] theorem lanedWork_out_released : (lanedWork i w).released = w.released := by simp [lanedWork]
@[simp] theorem lanedWork_out_advance : (lanedWork i w).advance = w.advance := by simp [lanedWork]
@[simp] theorem lanedWork_out_protection : (lanedWork i w).protection = w.protection := by simp [lanedWork]
@[simp] theorem lanedWork_out_cycleStart : (lanedWork i w).cycleStart = w.cycleStart := by simp [lanedWork]

theorem lanedWork_relays : (lanedWork i w).state.relays = w.state.relays.advance w.state.control.mode := rfl

theorem lanedWork_composer : (lanedWork i w).state.composer
    = { w.state.composer with claims := claimsOf (lanedWork i w).state.lanes } := rfl

/-- The composer with its ramps of the sample advanced, and ended where they complete (R78, R79). -/
def rampedComposer (c : Composer) (engine : EngineState) (entered released : Bool) (inc : Nat) : Composer :=
  if (c.advanceRamps engine entered released inc).rampEnds engine then
      (c.advanceRamps engine entered released inc).endRamp
  else c.advanceRamps engine entered released inc

theorem perform_composer : (w.perform i).state.composer =
    (rampedComposer (lanedWork i w).state.composer w.state.control.engine w.entered w.released w.advance).compose
        w.state.control.mode w.state.control.engine
      (lanedWork i w).state.lanes := by
  have h : (w.perform i).state.composer = ((lanedWork i w).frequency.compose).state.composer := rfl
  rw [h]
  simp only [Work.compose, Work.frequency_composer, Work.frequency_control, Work.frequency_lanes,
      Work.frequency_out_entered, Work.frequency_out_released, Work.frequency_out_advance, lanedWork_control,
      lanedWork_out_entered, lanedWork_out_released, lanedWork_out_advance, rampedComposer]

theorem perform_relays : (w.perform i).state.relays =
    (w.state.relays.advance w.state.control.mode).command w.state.control.mode
        (w.perform i).state.composer.closeCommand w.protection := by
  have h : (w.perform i).state.relays = ((lanedWork i w).frequency.compose.commandRelays).state.relays := rfl
  have hc : (w.perform i).state.composer = ((lanedWork i w).frequency.compose).state.composer := rfl
  rw [h, hc]
  simp only [Work.commandRelays, Work.compose_relays, Work.frequency_relays, lanedWork_relays, Work.compose_control,
      Work.frequency_control, lanedWork_control, Work.compose_out_protection, Work.frequency_out_protection,
      lanedWork_out_protection]

/-- The work once the levels are composed and the relays commanded, before the codes are formed. -/
def composedWork (i : SampleInputs) (w : Work) : Work := (lanedWork i w).frequency.compose.commandRelays

theorem perform_composedWork : w.perform i = (composedWork i w).output i := rfl

@[simp] theorem composedWork_control : (composedWork i w).state.control = w.state.control := by simp [composedWork]
@[simp] theorem composedWork_link : (composedWork i w).state.link = w.state.link := by simp [composedWork]
@[simp] theorem composedWork_synth : (composedWork i w).state.synth = w.state.synth := by simp [composedWork]
@[simp] theorem composedWork_lanes : (composedWork i w).state.lanes
    = (lanedWork i w).state.lanes := by simp [composedWork]

theorem composedWork_composer : (composedWork i w).state.composer = (w.perform i).state.composer := rfl

theorem composedWork_timebase : (composedWork i w).state.timebase = (w.perform i).state.timebase := rfl

/-- The codes of the sample, each with whether it was clamped (R118). -/
def codesOf (i : SampleInputs) (w : Work) : PerPhase (Int × Bool) :=
  (composedWork i w).state.synth.codes (composedWork i w).state.control.mode (composedWork i w).state.control.engine
      (composedWork i w).state.timebase (composedWork i w).state.composer
    (composedWork i w).state.lanes ((composedWork i w).appliedEnvelopes i)

theorem perform_link : (w.perform i).state.link =
   (w.state.link.sendFrame (decide (w.state.control.engine = .tripped) || decide (w.state.control.engine = .faulted))
     (tabPhase fun x => (getPhase (codesOf i w) x).1)).runMarker (lanedWork i w).markerRequest := by
  rw [perform_composedWork]
  have hm : (composedWork i w).markerRequest = (lanedWork i w).markerRequest := by
    simp only [composedWork, Work.frequency]; split <;> rfl
  simp only [Work.output, composedWork_control, composedWork_link, hm, codesOf]

theorem perform_synth : (w.perform i).state.synth = w.state.synth.countClips (tabPhase fun x => (getPhase
    (codesOf i w) x).2) := by
  rw [perform_composedWork]
  simp only [Work.output, composedWork_synth, codesOf]

theorem perform_lane (k : LaneId) : getLane (w.perform i).state.lanes k =
   (getLane (lanedWork i w).state.lanes k).addClips (clipsFor (w.perform i).state.composer.claims (tabPhase fun x =>
       (getPhase (codesOf i w) x).2) k) := by
  rw [perform_composedWork]
  simp only [Work.output, getLane_tabLane, codesOf, composedWork_lanes]

theorem perform_claims : (w.perform i).state.composer.claims = claimsOf (lanedWork i w).state.lanes := by
  rw [perform_composer]
  have h : ∀ c : Composer, ∀ e a b n, (rampedComposer c e a b n).claims = c.claims := by
    intro c e a b n; unfold rampedComposer; split <;> rfl
  simp only [Composer.compose]
  rw [h]; rfl

theorem code_bounds (sy : Synth) (mode : BitVec 2) (e : EngineState) (x : Phase) (phi : Word) (cs : List Component)
    (level : Int) (f : Nat) :
    -(sy.ceiling : Int) ≤ (sy.code mode e x phi cs level f).1 ∧ (sy.code mode e x phi cs level f).1 ≤ sy.ceiling ∧
    (present mode x = false → (sy.code mode e x phi cs level f).1 = 0) ∧
    (e.silent = true → (sy.code mode e x phi cs level f).1 = 0) := by
  unfold Synth.code limited
  split
  · rename_i h; simp at h
    refine ⟨?_, ?_, ?_, ?_⟩
    · split <;> [skip; split] <;> simp_all
    · split <;> [skip; split] <;> simp_all
    · simp [h.1]
    · simp [h.2]
  · simp
end

theorem bmod_twenty_bits (z : Int) (ha : -524288 ≤ z) (hb : z ≤ 524287) : z.bmod (2 ^ 20) = z := by
  unfold Int.bmod; simp; split <;> omega

/-! ### What has come about stays come about -/
theorem enterProgress_happened (w : Work) : w.happened ⊆ w.enterProgress.happened := by
  unfold Work.enterProgress; dsimp only; split <;> simp

theorem actOnRelease_happened (w : Work) : w.happened ⊆ w.actOnRelease.happened := by
  unfold Work.actOnRelease; dsimp only; repeat' (first | (simp; done) | split)

theorem opening_happened (w : Work) : w.happened ⊆ w.opening.happened :=
  fun _ h => actOnRelease_happened _ (enterProgress_happened _ h)

theorem sampleLines_happened (w : Work) (i : SampleInputs) : (w.sampleLines i).happened = w.happened := rfl

theorem measure_happened (w : Work) : w.happened ⊆ w.measure.happened := by simp [Work.measure]

theorem cycleScan_happened (w : Work) : w.cycleScan.happened = w.happened := by unfold Work.cycleScan; split <;> rfl

theorem protect_happened (w : Work) (i : SampleInputs) : w.happened ⊆ (w.protect i).happened := by
  unfold Work.protect Work.act; split <;> simp

theorem watches_happened (w : Work) (i : SampleInputs) : w.happened ⊆ (w.watches i).happened := by simp [Work.watches]

theorem advanceRelays_happened (w : Work) : w.happened ⊆ w.advanceRelays.happened := by simp [Work.advanceRelays]

theorem lanes_happened (w : Work) (i : SampleInputs) : w.happened ⊆ (w.lanes i).happened := by simp [Work.lanes]

theorem frequency_happened (w : Work) : w.frequency.happened = w.happened := by unfold Work.frequency; split <;> rfl

theorem compose_happened (w : Work) : w.happened ⊆ w.compose.happened := by simp [Work.compose]

theorem commandRelays_happened (w : Work) : w.commandRelays.happened = w.happened := rfl

theorem output_happened (w : Work) (i : SampleInputs) : w.happened ⊆ (w.output i).happened := by simp [Work.output]

section
variable (i : SampleInputs) (s : State)

theorem finalWork_happened_composedWork : (composedWork i (settledWork i s)).happened ⊆
    (finalWork i s).happened := output_happened (composedWork i (settledWork i s)) i

theorem finalWork_happened_lanedWork : (lanedWork i (settledWork i s)).happened ⊆
    (finalWork i s).happened := fun _ hh =>
  finalWork_happened_composedWork i s (by
    rw [composedWork, commandRelays_happened]
    exact compose_happened _ (by rw [frequency_happened]; exact hh))

theorem finalWork_happened_settledWork : (settledWork i s).happened ⊆ (finalWork i s).happened := fun _ hh =>
  finalWork_happened_lanedWork i s (lanes_happened _ i (advanceRelays_happened _ (watches_happened _ i hh)))

theorem finalWork_happened_measuredWork : (measuredWork i s).happened ⊆
    (finalWork i s).happened := fun _ hh => finalWork_happened_settledWork i s (protect_happened _ i hh)

theorem finalWork_happened_openedWork : (openedWork s).happened ⊆
    (finalWork i s).happened := fun _ hh => finalWork_happened_measuredWork i s (by
  rw [measuredWork, cycleScan_happened]; exact measure_happened ((openedWork s).sampleLines i) hh)

theorem finalWork_happened_tickedWork : (tickedWork s).happened ⊆
    (finalWork i s).happened := fun _ hh => finalWork_happened_openedWork i s (opening_happened (tickedWork s) hh)

theorem row_eq (h : Happening) (hr : s.rstLow = false) (hq : s.noExpiry = true) (hh : h ∈ (finalWork i s).happened) :
    sampleRow h i s = .next (finalWork i s).state := by
  rw [sampleRow_of_happened, sampleWork_finalWork i s hr hq]; rw [sampleWork_finalWork i s hr hq]; exact hh

theorem event_eq (hr : s.rstLow = false) (hq : s.noExpiry = true) : exec (.sampleEvent i) s
    = .next (finalWork i s).state := by
  simp [exec, execSampleEvent, sampleWork_finalWork i s hr hq]
end

/-! ### The drive link at any sample event -/
theorem sampleWork_link (i : SampleInputs) (s : State) (hr : s.rstLow = false) :
    ∃ w : Work, w.state.link = s.link.sampleLines i.ready i.fault ∧ (sampleWork i s).state.link
        = ((w.output i)).state.link ∧
      (w.output i).happened ⊆ (sampleWork i s).happened := by
  rw [sampleWork_eq i s hr]
  refine ⟨composedWork i (({ state := s } : Work).settle i), ?_, ?_, ?_⟩
  · simp [Work.settle, Work.sampleLines]
  · simp [Work.close, perform_composedWork]
  · rw [perform_composedWork]
    unfold Work.close
    intro h hh
    have e1 : ∀ (w : Work) (b : Bool), w.happened ⊆ (w.expire b).happened := by
      intro w b; unfold Work.expire; split <;> simp
    have e2 : ∀ (w : Work) (b : Bool), w.happened ⊆ (w.dropHead b).happened := by
      intro w b; unfold Work.dropHead; split <;> simp
    exact e2 _ _ (e1 _ _ hh)

section
variable (i : SampleInputs) (s : State)

/-! ### Flags -/
/-- The window changed by setting flags alone. -/
def Window.le (a b : Window) : Prop := a.mask = b.mask ∧ ∀ f, a.has f = true → b.has f = true

theorem Window.le_refl (a : Window) : a.le a := ⟨rfl, fun _ h => h⟩

theorem Window.le_trans {a b c : Window} (h : a.le b) (g : b.le c) : a.le c := ⟨h.1.trans g.1,
    fun f x => g.2 f (h.2 f x)⟩

theorem setFlag_has (w : Window) (f g : Flag) : (w.setFlag f).has g = (w.has g || decide (f = g)) := by
  unfold Window.setFlag Window.drive Window.has
  simp only [BitVec.getLsbD_or]
  congr 1
  cases f <;> cases g <;> decide

theorem setFlag_le (w : Window) (f : Flag) : w.le (w.setFlag f) := ⟨rfl, fun g h => by rw [setFlag_has, h]; rfl⟩

theorem setFlagIf_le (w : Window) (b : Bool) (f : Flag) : w.le (w.setFlagIf b f) := by
  unfold Window.setFlagIf; split; exact setFlag_le _ _; exact Window.le_refl _

theorem enterProgress_window (w : Work) : w.state.window.le w.enterProgress.state.window := by
  unfold Work.enterProgress; dsimp only; split <;> first | exact Window.le_refl _ | exact setFlag_le _ _

theorem actOnRelease_window (w : Work) : w.actOnRelease.state.window = w.state.window := by
  unfold Work.actOnRelease; dsimp only; repeat' (first | rfl | split)

theorem openedWork_window : s.window.le (openedWork s).state.window := by
  have := enterProgress_window (tickedWork s)
  simpa [openedWork, Work.opening, actOnRelease_window] using this

theorem measuredWork_window_eq : (measuredWork i s).state.window
    = (openedWork s).state.window.setFlagIf (i.fault && !(openedWork s).state.control.previousFault) .fault := by
  simp [measuredWork, Work.measure, Work.sampleLines]

theorem measuredWork_window : (openedWork s).state.window.le
    (measuredWork i s).state.window := by rw [measuredWork_window_eq]; exact setFlagIf_le _ _ _

theorem protect_window (w : Work) : w.state.window.le (w.protect i).state.window := by
  unfold Work.protect Work.act; dsimp only; split <;> first | exact Window.le_refl _ | exact setFlag_le _ _

theorem perform_window (w : Work) : w.state.window.le (w.perform i).state.window := by
  have : (w.perform i).state.window = (lanedWork i w).state.window := by
    rw [perform_composedWork]; simp [composedWork]
  rw [this]
  exact setFlagIf_le _ _ _

theorem finalWork_window_settledWork : (settledWork i s).state.window.le (finalWork i s).state.window := by
  have := perform_window i (settledWork i s); simpa [finalWork] using this

theorem finalWork_window_measuredWork : (measuredWork i s).state.window.le
    (finalWork i s).state.window := Window.le_trans (protect_window i (measuredWork i s))
    (finalWork_window_settledWork i s)

theorem finalWork_window_openedWork : (openedWork s).state.window.le (finalWork i s).state.window := Window.le_trans
    (measuredWork_window i s) (finalWork_window_measuredWork i s)

theorem finalWork_window : s.window.le (finalWork i s).state.window := Window.le_trans (openedWork_window s)
    (finalWork_window_openedWork i s)

theorem openedWork_previousFault : (openedWork s).state.control.previousFault = s.control.previousFault := by
  have e : ∀ w : Work, w.enterProgress.state.control.previousFault = w.state.control.previousFault := by
    intro w; unfold Work.enterProgress; dsimp only; split <;> rfl
  have a : ∀ w : Work, w.actOnRelease.state.control.previousFault = w.state.control.previousFault := by
    intro w; unfold Work.actOnRelease; dsimp only; repeat' (first | rfl | split)
  simp [openedWork, Work.opening, e, a]

theorem finalWork_fault (h : i.fault = true) (hp : s.control.previousFault
    = false) : (finalWork i s).state.window.has .fault = true := by
  apply (finalWork_window_measuredWork i s).2
  rw [measuredWork_window_eq, openedWork_previousFault, h, hp]
  simp [Window.setFlagIf, setFlag_has]

/-! ### The Plan Port -/
theorem cycleScan_port (w : Work) : w.cycleScan.state.port
    = if w.cycleStart && w.opened.scans then w.state.port.requestScan else w.state.port := by
  unfold Work.cycleScan; split <;> rfl

theorem measuredWork_port : (measuredWork i s).state.port
    = if s.cycleStartDue && s.openedState.scans then (tickedWork s).state.port.requestScan else
    (tickedWork s).state.port := by
  simp [measuredWork, cycleScan_port]

theorem finalWork_port : (finalWork i s).state.port = (measuredWork i s).state.port.discardFetches (fun k =>
    (getLane (lanesWork (tabLane ((((settledWork i s).watches i).advanceRelays).sampleEnv i)) s.lanes) k).discards)
    := by
  have h1 : (finalWork i s).state.port = (lanedWork i (settledWork i s)).state.port := by
    simp only [finalWork, Work.enqueue_port, Work.report_port, perform_composedWork, Work.output_port, composedWork,
        Work.commandRelays_port, Work.compose_port, Work.frequency_port]
  rw [h1, lanedWork]
  simp only [Work.lanes, Work.advanceRelays_port, Work.watches_port, settledWork_port, Work.advanceRelays_lanes,
      Work.watches_lanes, settledWork_lanes]

/-! ### The composer, the synthesizer, the relays and the measurement -/
theorem rampedComposer_kept (c : Composer) (e : EngineState) (a b : Bool) (n : Nat) :
    (rampedComposer c e a b n).steady = c.steady ∧
   (rampedComposer c e a b n).softLength = c.softLength ∧ (rampedComposer c e a b n).releaseLength = c.releaseLength ∧
   (rampedComposer c e a b n).releaseOrigin = c.releaseOrigin ∧ (rampedComposer c e a b n).claims = c.claims := by
  unfold rampedComposer; split <;> exact ⟨rfl, rfl, rfl, rfl, rfl⟩

theorem openedWork_composer_kept : (openedWork s).state.composer.steady
    = s.composer.steady ∧ (openedWork s).state.composer.softLength = s.composer.softLength ∧
   (openedWork s).state.composer.releaseLength = s.composer.releaseLength ∧ (openedWork s).state.composer.claims
       = s.composer.claims ∧
   (openedWork s).state.composer.lastComposed = s.composer.lastComposed := by
  have e : ∀ w : Work, w.enterProgress.state.composer.steady
      = w.state.composer.steady ∧ w.enterProgress.state.composer.softLength = w.state.composer.softLength ∧
     w.enterProgress.state.composer.releaseLength = w.state.composer.releaseLength ∧
         w.enterProgress.state.composer.claims = w.state.composer.claims ∧
     w.enterProgress.state.composer.lastComposed = w.state.composer.lastComposed := by
    intro w; unfold Work.enterProgress; dsimp only; split <;> exact ⟨rfl, rfl, rfl, rfl, rfl⟩
  have a : ∀ w : Work, w.actOnRelease.state.composer.steady
      = w.state.composer.steady ∧ w.actOnRelease.state.composer.softLength = w.state.composer.softLength ∧
     w.actOnRelease.state.composer.releaseLength = w.state.composer.releaseLength ∧
         w.actOnRelease.state.composer.claims = w.state.composer.claims ∧
     w.actOnRelease.state.composer.lastComposed = w.state.composer.lastComposed := by
    intro w; unfold Work.actOnRelease; dsimp only; repeat' (first | exact ⟨rfl, rfl, rfl, rfl, rfl⟩ | split)
  simp only [openedWork, Work.opening, a, e, tickedWork_composer, and_self]

theorem protect_composer (w : Work) : (w.protect i).state.composer
    = { w.state.composer with rampRunning := (w.protect i).state.composer.rampRunning } := by
  unfold Work.protect Work.act; dsimp only; split <;> rfl

theorem settledWork_composer_kept : (settledWork i s).state.composer.steady
    = s.composer.steady ∧ (settledWork i s).state.composer.softLength = s.composer.softLength ∧
   (settledWork i s).state.composer.releaseLength = s.composer.releaseLength ∧
       (settledWork i s).state.composer.claims = s.composer.claims ∧
   (settledWork i s).state.composer.lastComposed = s.composer.lastComposed := by
  rw [settledWork, protect_composer, measuredWork_composer]; exact openedWork_composer_kept s

theorem finalWork_composer : (finalWork i s).state.composer
    =  (rampedComposer (lanedWork i (settledWork i s)).state.composer (settledWork i s).state.control.engine (decide
    (s.control.progress = .softstart)) s.releaseDue s.incrementDue).compose s.control.mode
    (settledWork i s).state.control.engine
      (lanedWork i (settledWork i s)).state.lanes := by
  have : (finalWork i s).state.composer = ((settledWork i s).perform i).state.composer := by simp [finalWork]
  rw [this, perform_composer]; simp

theorem finalWork_composer_kept : (finalWork i s).state.composer.steady
    = s.composer.steady ∧ (finalWork i s).state.composer.softLength = s.composer.softLength ∧
   (finalWork i s).state.composer.releaseLength = s.composer.releaseLength := by
  rw [finalWork_composer]
  simp only [Composer.compose, (rampedComposer_kept _ _ _ _ _).1, (rampedComposer_kept _ _ _ _ _).2.1,
      (rampedComposer_kept _ _ _ _ _).2.2.1, lanedWork_composer, (settledWork_composer_kept i s).1,
      (settledWork_composer_kept i s).2.1, (settledWork_composer_kept i s).2.2.1, and_self]

theorem finalWork_synth : (finalWork i s).state.synth = (measuredWork i s).state.synth.countClips (tabPhase fun x =>
    (getPhase (codesOf i (settledWork i s)) x).2) := by
  have : (finalWork i s).state.synth = ((settledWork i s).perform i).state.synth := by simp [finalWork]
  rw [this, perform_synth]; simp

theorem measuredWork_synth : (measuredWork i s).state.synth
    = { s.synth with
        cycleClips :=
          if s.cycleStartDue || decide (s.timebase.restartDue ≠ .none) then perPhase 0 else s.synth.cycleClips } := by
  simp only [measuredWork, Work.cycleScan_synth, Work.measure, Work.sampleLines_synth, openedWork_synth,
      Work.sampleLines_out_cycleStart, Work.sampleLines_out_restart, openedWork_out_cycleStart,
      openedWork_out_restart]
  split <;> rfl

theorem finalWork_relays : (finalWork i s).state.relays = (s.relays.advance s.control.mode).command s.control.mode
    (finalWork i s).state.composer.closeCommand (settledWork i s).protection := by
  have : (finalWork i s).state.relays = ((settledWork i s).perform i).state.relays := by simp [finalWork]
  have hc : (finalWork i s).state.composer = ((settledWork i s).perform i).state.composer := by simp [finalWork]
  rw [this, perform_relays, hc]; simp

theorem finalWork_measure : (finalWork i s).state.measure
    = (s.measure.sample s.control.mode s.openedState.live s.cycleStartDue (decide
    (s.timebase.restartDue ≠ .none)) s.synth.cycleClips).afterSummary s.cycleStartDue (decide (s.openedState
    = .running)) := by
  rw [← measuredWork_measure i s]; simp [finalWork]

theorem ownerEpisode_congr (ls ls' : PerLane Lane) (set : PerLane Bool) (h : ∀ k, (getLane ls k).current
    = (getLane ls' k).current) :
    ownerEpisode ls set = ownerEpisode ls' set := by
  unfold ownerEpisode
  congr 1; funext k; rw [h]

theorem finalWork_lane (k : LaneId) : getLane (finalWork i s).state.lanes k =
   (getLane (lanedWork i (settledWork i s)).state.lanes k).addClips (clipsFor (finalWork i s).state.composer.claims
       (tabPhase fun x => (getPhase (codesOf i (settledWork i s)) x).2) k) := by
  have hl : (finalWork i s).state.lanes = ((settledWork i s).perform i).state.lanes := by simp [finalWork]
  have hc : (finalWork i s).state.composer = ((settledWork i s).perform i).state.composer := by simp [finalWork]
  rw [hl, perform_lane, hc]

theorem finalWork_claims : (finalWork i s).state.composer.claims
    = claimsOf (lanedWork i (settledWork i s)).state.lanes := by
  have hc : (finalWork i s).state.composer = ((settledWork i s).perform i).state.composer := by simp [finalWork]
  rw [hc, perform_claims]

theorem finalWork_timebase : (finalWork i s).state.timebase
    = if s.cycleStartDue then (s.timebase.tick s.control.mode).applyFrequency
    ((finalWork i s).state.composer.freqOwner (finalWork i s).state.lanes) else s.timebase.tick s.control.mode := by
  have ht : (finalWork i s).state.timebase = ((settledWork i s).perform i).state.timebase := by simp [finalWork]
  have hp : ((settledWork i s).perform i).state.timebase
      = if (settledWork i s).cycleStart then (settledWork i s).state.timebase.applyFrequency ((lanedWork i
      (settledWork i s)).state.composer.freqOwner (lanedWork i (settledWork i s)).state.lanes) else
      (settledWork i s).state.timebase := by
    have : ((settledWork i s).perform i).state.timebase = (lanedWork i
        (settledWork i s)).frequency.state.timebase := by
      rw [perform_composedWork]; simp [composedWork]
    rw [this, frequency_timebase]; simp
  have hf : (lanedWork i (settledWork i s)).state.composer.freqOwner (lanedWork i (settledWork i s)).state.lanes
      = (finalWork i s).state.composer.freqOwner (finalWork i s).state.lanes := by
    unfold Composer.freqOwner
    rw [finalWork_claims]
    rw [ownerEpisode_congr (finalWork i s).state.lanes (lanedWork i (settledWork i s)).state.lanes _
        (fun k => by rw [finalWork_lane]; rfl)]
    rfl
  rw [ht, hp, hf]; simp

theorem finalWork_previousTrig : (finalWork i s).state.previousTrig = some i.trig := by
  have : (finalWork i s).state.previousTrig = (lanedWork i (settledWork i s)).state.previousTrig := by
    simp only [finalWork, Work.enqueue_previousTrig, Work.report_previousTrig, perform_composedWork,
        Work.output_previousTrig, composedWork, Work.commandRelays_previousTrig, Work.compose_previousTrig,
        Work.frequency_previousTrig]
  rw [this]; rfl

theorem finalWork_link : (finalWork i s).state.link = ((settledWork i s).perform i).state.link := by simp [finalWork]
end

theorem wraps_none (s : State) (h : s.timebase.restartDue = .none) : s.cycleStartDue
    = decide (4294967296 ≤ s.timebase.theta.toNat + s.timebase.increment) := by
  simp [State.cycleStartDue, h]

theorem measure_sums (m : Measure) (mode : BitVec 2) (live cs rs : Bool) (clips : PerPhase Nat) (b : Bool)
    (x : Phase) :
    let t := (m.sample mode live cs rs clips).afterSummary cs b
    getPhase t.sumV x = (if cs || rs then 0 else getPhase m.sumV x) + (getPhase
        (m.holder.getD m.lastGood).v x).natAbs ^ 2 ∧
    getPhase t.sumI x = (if cs || rs then 0 else getPhase m.sumI x) + (getPhase
        (m.holder.getD m.lastGood).i x).natAbs ^ 2 ∧
    getPhase t.peakI x = max (if cs || rs then 0 else getPhase m.peakI x) (getPhase
        (m.holder.getD m.lastGood).i x).natAbs ∧
    t.count = (if cs || rs then 0 else m.count) + 1 ∧
    t.cycleStale = (if cs || rs then 0 else m.cycleStale) + (if m.holder.isNone then 1 else 0) ∧
    t.figures = (if rs then Figures.zero else if cs then m.closing clips else m.figures) := by
  simp only [Measure.sample, Measure.afterSummary_sumV, Measure.afterSummary_sumI, Measure.afterSummary_peakI,
      Measure.afterSummary_count, Measure.afterSummary_cycleStale, Measure.afterSummary_figures,
      Measure.detect_sumV, Measure.detect_sumI, Measure.detect_peakI, Measure.detect_count,
      Measure.detect_cycleStale, Measure.detect_figures, Measure.accumulate, Measure.take_figures,
      Measure.take_cycleStale, Measure.take_lastGood, Measure.atSample_lastGood, Measure.atSample_holder,
      getPhase_tabPhase, magnitude, Measure.take_sumV, Measure.take_sumI, Measure.take_peakI, Measure.take_count,
      pow_two]
  cases cs <;> cases rs <;> simp [Measure.atSample, Measure.cleared]

end Sys2Proof.Machine
end

