-- ==== Sys2Proof/Laws/SampleLanes.lean ====
section
/-! SUPPORT. What the lanes, the watches, the ramps and the journal do at a sample event at which no transaction reaches
the wait limit, and when a row of the table takes place there. -/

namespace Sys2Proof.Machine

theorem isqrtBits_spec (n b : Nat) : ∀ r, r * r ≤ n → n < (r + 2 ^ b) * (r + 2 ^ b) →
    isqrtBits n b r * isqrtBits n b r ≤ n ∧ n < (isqrtBits n b r + 1) * (isqrtBits n b r + 1) := by
  induction b with
  | zero => intro r h1 h2; exact ⟨h1, by simpa [isqrtBits] using h2⟩
  | succ b ih =>
    intro r h1 h2
    unfold isqrtBits
    apply ih
    · split <;> assumption
    · split
      · rw [pow_succ] at h2; rw [show r + 2 ^ b + 2 ^ b = r + 2 ^ b * 2 by ring]; exact h2
      · omega

theorem isqrt_eq (n : Nat) (h : n < 2 ^ 32) : isqrt n = Nat.sqrt n := by
  have := isqrtBits_spec n 16 0 (by simp) (by norm_num at h ⊢; exact h)
  exact Nat.eq_sqrt.2 this

theorem incrementOf_eq (f : Nat) : incrementOf f = (f * 2 ^ 33 + 25600000) / 51200000 := by
  unfold incrementOf fullCycle; omega

theorem mem_happens (b : Bool) (h g : Happening) : g ∈ happens b h ↔ b = true ∧ g = h := by
  unfold happens; split <;> simp_all

theorem cs_mem (i : SampleInputs) (s : State) : Happening.cycleStart ∈ (finalWork i s).happened ↔ s.cycleStartDue
    = true := by
  have e1 : ∀ w : Work, Happening.cycleStart ∈ w.enterProgress.happened ↔ Happening.cycleStart ∈ w.happened := by
    intro w; unfold Work.enterProgress; dsimp only; split <;> simp
    split <;> simp
  have e2 : ∀ w : Work, Happening.cycleStart ∈ w.actOnRelease.happened ↔ Happening.cycleStart ∈ w.happened := by
    intro w; unfold Work.actOnRelease; dsimp only; repeat' (first | (simp [mem_happens]; done) | split)
  have e3 : Happening.cycleStart ∈ (measuredWork i s).happened ↔ Happening.cycleStart ∈ (openedWork s).happened := by
    rw [measuredWork, cycleScan_happened]; simp only [Work.measure, List.mem_append, mem_happens,
        sampleLines_happened]; simp
  have e4 : Happening.cycleStart ∈ (settledWork i s).happened ↔ Happening.cycleStart ∈
      (measuredWork i s).happened := by
    unfold settledWork Work.protect Work.act; dsimp only; split <;> simp
  have e5 : Happening.cycleStart ∈ (lanedWork i (settledWork i s)).happened ↔ Happening.cycleStart ∈
      (settledWork i s).happened := by
    have h1 : ∀ k o, Happening.cycleStart ∉ watchHappening k o := by
      intro k o; unfold watchHappening; split <;> simp
    unfold lanedWork
    simp only [Work.lanes, Work.advanceRelays, Work.watches, List.mem_append, List.mem_flatMap, List.mem_map,
        mem_happens]
    simp [h1]
  have e6 : Happening.cycleStart ∈ (finalWork i s).happened ↔ Happening.cycleStart ∈ (lanedWork i
      (settledWork i s)).happened := by
    have : (finalWork i s).happened = ((composedWork i (settledWork i s)).output i).happened := rfl
    rw [this]
    simp only [Work.output, composedWork, commandRelays_happened, Work.compose, frequency_happened, List.mem_append,
        mem_happens]
    simp
  rw [e6, e5, e4, e3, openedWork, Work.opening]
  show Happening.cycleStart ∈ (tickedWork s).enterProgress.actOnRelease.happened ↔ _
  rw [e2, e1]
  have : s.timebase.wraps = s.cycleStartDue := rfl
  simp [tickedWork, Work.waitTimer, Work.tick, mem_happens, this]

theorem has_happens_tick (i : SampleInputs) (s : State) (h : s.cycleStartDue
    = true) : Happening.cycleStart ∈ (finalWork i s).happened := by
  apply finalWork_happened_tickedWork
  have : s.timebase.wraps = true := h
  simp [tickedWork, Work.waitTimer, Work.tick, happens, this]

theorem clips_le (i : SampleInputs) (s : State) (x : Phase) (h : (s.cycleStartDue || decide
    (s.timebase.restartDue ≠ .none)) = true) :
    getPhase (finalWork i s).state.synth.cycleClips x ≤ 1 := by
  rw [finalWork_synth, measuredWork_synth, h]
  simp [Synth.countClips]
  split <;> simp

theorem mem_P2_relay (i : SampleInputs) (s : State) (x : Phase) (hp : present s.control.mode x = true)
   (h : (getPhase s.relays.relay x).completes = true) : Happening.relayOperationComplete x ∈
       (finalWork i s).happened := by
  apply finalWork_happened_lanedWork
  unfold lanedWork
  simp only [Work.lanes, Work.advanceRelays, Work.watches, List.mem_append, List.mem_flatMap, mem_happens]
  left; right
  refine ⟨x, mem_allPhases x, ?_, rfl⟩
  simp [hp, h]

theorem closeCommand_eq (i : SampleInputs) (s : State) (x : Phase) (h : (settledWork i s).state.control.engine
    = .tripped ∨ (settledWork i s).state.control.engine = .faulted) :
   getPhase (finalWork i s).state.composer.closeCommand x = false := by
  rw [finalWork_composer]
  simp only [Composer.compose, getPhase_tabPhase, Composer.commandFor]
  rcases h with h | h <;> rw [h] <;> simp

theorem settledWork_prot_engine (i : SampleInputs) (s : State) (h1 : 1 ≤ s.measure.tripCount) (h : s.unprotected i
    = false) :
   (settledWork i s).state.control.engine = .tripped ∨ (settledWork i s).state.control.engine = .faulted := by
  rw [settledWork_engine i s h1]
  cases hp : s.protectionDue i with
  | none => rw [protectionDue_none] at hp; simp [hp] at h
  | some p => cases p <;> simp

theorem openedWork_soft (s : State) : (openedWork s).state.composer.softAdvance = if s.control.progress
    = .softstart then 0 else s.composer.softAdvance := by
  have e : ∀ w : Work, w.enterProgress.state.composer.softAdvance = if w.state.control.progress
      = .softstart then 0 else w.state.composer.softAdvance := by
    intro w; unfold Work.enterProgress; dsimp only; split <;> simp_all
  have a : ∀ w : Work, w.actOnRelease.state.composer.softAdvance = w.state.composer.softAdvance := by
    intro w; unfold Work.actOnRelease; dsimp only; repeat' (first | rfl | split)
  simp [openedWork, Work.opening, a, e]
  rfl

/-- The release ramp's marks after the opening (R79). -/
theorem openedWork_release (s : State) : (openedWork s).state.composer.releaseAdvance
    = (if s.releaseDue then 0 else s.composer.releaseAdvance) ∧
   (openedWork s).state.composer.rampRunning = (if s.releaseDue then !decide (s.enteredState
       = .closing) else s.composer.rampRunning) ∧
   (openedWork s).state.composer.rampComplete = (if s.releaseDue then decide (s.enteredState
       = .closing) else s.composer.rampComplete) ∧
   (openedWork s).state.composer.releaseOrigin = (if s.releaseDue then (if s.enteredState
       = .closing then perPhase 0 else s.composer.lastComposed) else s.composer.releaseOrigin) := by
  have e : ∀ w : Work, w.enterProgress.state.composer.releaseAdvance
      = w.state.composer.releaseAdvance ∧ w.enterProgress.state.composer.rampRunning = w.state.composer.rampRunning ∧
     w.enterProgress.state.composer.rampComplete = w.state.composer.rampComplete ∧
         w.enterProgress.state.composer.releaseOrigin = w.state.composer.releaseOrigin ∧
         w.enterProgress.state.composer.lastComposed = w.state.composer.lastComposed := by
    intro w; unfold Work.enterProgress; dsimp only; split <;> exact ⟨rfl, rfl, rfl, rfl, rfl⟩
  have a : ∀ w : Work, w.actOnRelease.state.composer = if w.state.control.pendingRelease &&
      w.state.control.engine.releasable then w.state.composer.release (decide (w.state.control.engine
      = .closing)) else w.state.composer := by
    intro w; unfold Work.actOnRelease; dsimp only; repeat' (first | (simp_all; done) | split)
  have h : (openedWork s).state.composer = if s.releaseDue then (tickedWork s).enterProgress.state.composer.release
      (decide (s.enteredState = .closing)) else (tickedWork s).enterProgress.state.composer := by
    simp only [openedWork, Work.opening, a, enterProgress_engine, enterProgress_pendingRelease, releasable_eq]
    rfl
  rw [h]
  cases s.releaseDue
  · simp [e]
  · simp [Composer.release, e]

theorem openedWork_release_happened (s : State) (h : s.releaseDue
    = true) : Happening.releaseActedOn ∈ (openedWork s).happened ∧
   (s.enteredState = .closing → Happening.releaseRampComplete ∈ (openedWork s).happened) := by
  have a : ∀ w : Work, w.actOnRelease.happened = if w.state.control.pendingRelease &&
      w.state.control.engine.releasable then
     w.happened ++ [.releaseActedOn] ++ happens (decide (w.state.control.engine
         = .closing)) .releaseRampComplete else w.happened := by
    intro w; unfold Work.actOnRelease; dsimp only; repeat' (first | (simp_all; done) | split)
  have hh : (openedWork s).happened = (tickedWork s).enterProgress.happened ++ [.releaseActedOn] ++ happens (decide
      (s.enteredState = .closing)) .releaseRampComplete := by
    have : (openedWork s).happened = (tickedWork s).enterProgress.actOnRelease.happened := rfl
    rw [this, a, enterProgress_engine, enterProgress_pendingRelease, releasable_eq]
    have hr : ((tickedWork s).state.control.pendingRelease && ((tickedWork s).state.enteredState == .closing ||
        (tickedWork s).state.enteredState == .softstart || (tickedWork s).state.enteredState == .running)) = true := h
    rw [hr]; rfl
  rw [hh]
  constructor
  · simp
  · intro hc; simp [hc, happens]

theorem mem_happened_compose (i : SampleInputs) (s : State) : (happens
    ((settledWork i s).perform i).softDone .softstartComplete) ⊆ (finalWork i s).happened ∧
   (happens (((lanedWork i (settledWork i s)).state.composer.advanceRamps (settledWork i s).state.control.engine
       (decide (s.control.progress = .softstart)) s.releaseDue s.incrementDue).rampEnds
       (settledWork i s).state.control.engine) .releaseRampComplete) ⊆ (finalWork i s).happened := by
  have h : ∀ g, g ∈ ((lanedWork i (settledWork i s)).frequency.compose).happened →
      g ∈ (finalWork i s).happened := fun g hg =>
    finalWork_happened_composedWork i s (by rw [composedWork, commandRelays_happened]; exact hg)
  constructor
  · intro g hg; apply h
    have : ((settledWork i s).perform i).softDone = ((lanedWork i
        (settledWork i s)).frequency.compose).softDone := rfl
    rw [this] at hg
    simp only [Work.compose, List.mem_append] at hg ⊢
    exact Or.inl (Or.inr hg)
  · intro g hg; apply h
    simp only [Work.compose, List.mem_append, Work.frequency_composer, Work.frequency_control,
        Work.frequency_out_entered, Work.frequency_out_released, Work.frequency_out_advance, lanedWork_control,
        lanedWork_out_entered, lanedWork_out_released, lanedWork_out_advance, settledWork_out_entered,
        settledWork_out_released, settledWork_out_advance]
    exact Or.inr hg

theorem settledWork_composer_up (i : SampleInputs) (s : State) (h1 : 1 ≤ s.measure.tripCount) (hu : s.unprotected i
    = true) :
   (settledWork i s).state.composer = (openedWork s).state.composer := by rw [settledWork_unprotected i s h1 hu]; simp

theorem levelNone (c : Composer) (mode : BitVec 2) (e : EngineState) (ls : PerLane Lane) (x : Phase)
    (hp : present mode x = true)
   (h : lowestLane (getPhase c.claims.level x) = none) : c.composedLevel mode e ls x = c.levelDefault e x := by
  simp [Composer.composedLevel, hp, ownerEpisode, h]

/-- From journal a to journal b the record was posted: it stands in the queue, or a drop was counted. -/
def journalHolds (a b : Journal) (r : Record) : Prop := r ∈ b.queue ∨ (8 ≤ b.queue.length ∧
    (a.drops < b.drops ∨ b.drops = 4294967295))

theorem posted_iff (s t : State) (r : Record) : posted s t r = true ↔ journalHolds s.journal t.journal r := by
  simp [posted, journalHolds]

theorem post_journalHolds (j : Journal) (r : Record) : journalHolds j (j.post r) r := by
  unfold journalHolds Journal.post queueCapacity addDrop
  split
  · left; simp
  · right; simp; omega

theorem journalHolds_post {a b : Journal} {r : Record} (h : journalHolds a b r) (x : Record) : journalHolds a
    (b.post x) r := by
  unfold journalHolds at *
  unfold Journal.post queueCapacity addDrop
  split
  · simp; rcases h with h | h
    · left; left; exact h
    · omega
  · simp; rcases h with h | h
    · left; exact h
    · right; omega
/-- The drop count has not fallen, unless it stands at its top. -/
def dropsKept (a b : Journal) : Prop := a.drops ≤ b.drops ∨ b.drops = 4294967295

theorem dropsKept_post {a b : Journal} (h : dropsKept a b) (x : Record) : dropsKept a (b.post x) := by
  unfold dropsKept at *; unfold Journal.post queueCapacity addDrop; split
  · exact h
  · simp; omega

theorem dropsKept_journalHolds {a b : Journal} (h : dropsKept a b) (r : Record) : journalHolds a (b.post r) r := by
  unfold journalHolds dropsKept at *; unfold Journal.post queueCapacity addDrop; split
  · left; simp
  · right; simp; omega

theorem postAll_journalHolds (j : Journal) (rs : List Record) : ∀ r ∈ rs, journalHolds j (j.postAll rs) r := by
  have keep : ∀ (rs : List Record) (a b : Journal) (r : Record), journalHolds a b r →
      journalHolds a (b.postAll rs) r := by
    intro rs; induction rs with
    | nil => intro a b r h; exact h
    | cons x xs ih => intro a b r h; exact ih a (b.post x) r (journalHolds_post h x)
  have go : ∀ (rs : List Record) (a b : Journal), dropsKept a b → ∀ r ∈ rs, journalHolds a (b.postAll rs) r := by
    intro rs; induction rs with
    | nil => simp
    | cons x xs ih =>
      intro a b hm r hr
      rcases List.mem_cons.1 hr with h | h
      · subst h; exact keep xs a (b.post r) r (dropsKept_journalHolds hm r)
      · exact ih a (b.post x) (dropsKept_post hm x) r h
  exact go rs j j (Or.inl le_rfl)

section
variable (i : SampleInputs) (s : State)

theorem finalWork_journal : (finalWork i s).state.journal
    = s.journal.postAll ((settledWork i s).perform i).ordered := by
  have : (finalWork i s).state.journal = ((settledWork i s).perform i).report.state.journal.postAll
      ((settledWork i s).perform i).report.ordered := rfl
  rw [this]
  have h2 : ((settledWork i s).perform i).report.state.journal = s.journal := by
    simp only [Work.report_journal, perform_composedWork, Work.output_journal, composedWork,
        Work.commandRelays_journal, Work.compose_journal, Work.frequency_journal, lanedWork, Work.lanes_journal,
        Work.advanceRelays_journal, Work.watches_journal, settledWork_journal]
  rw [h2]; rfl

theorem finalWork_posted (r : Record) (h : r ∈ ((settledWork i s).perform i).ordered) : posted s
    (finalWork i s).state r = true := by
  rw [posted_iff, finalWork_journal]; exact postAll_journalHolds _ _ _ h

theorem perform_controlRecords (w : Work) : (w.perform i).controlRecords = w.controlRecords := by
  have : (w.perform i).controlRecords = ((lanedWork i w).frequency).controlRecords := rfl
  rw [this]
  have h : ∀ w : Work, w.frequency.controlRecords = w.controlRecords :=
      by intro w; unfold Work.frequency; split <;> rfl
  rw [h]; rfl

theorem perform_measureRecords (w : Work) : (w.perform i).measureRecords = w.measureRecords := by
  have : (w.perform i).measureRecords = ((lanedWork i w).frequency).measureRecords := rfl
  rw [this]
  have h : ∀ w : Work, w.frequency.measureRecords = w.measureRecords :=
      by intro w; unfold Work.frequency; split <;> rfl
  rw [h]; rfl

theorem perform_laneRecords (w : Work) : (w.perform i).laneRecords = (lanedWork i w).laneRecords := by
  have : (w.perform i).laneRecords = ((lanedWork i w).frequency).laneRecords := rfl
  rw [this]
  have h : ∀ w : Work, w.frequency.laneRecords = w.laneRecords := by intro w; unfold Work.frequency; split <;> rfl
  rw [h]

theorem perform_watchRecords (w : Work) : (w.perform i).watchRecords = (lanedWork i w).watchRecords := by
  have : (w.perform i).watchRecords = ((lanedWork i w).frequency).watchRecords := rfl
  rw [this]
  have h : ∀ w : Work, w.frequency.watchRecords = w.watchRecords := by intro w; unfold Work.frequency; split <;> rfl
  rw [h]

theorem posted_control (r : Record) (h : r ∈ (settledWork i s).controlRecords) : posted s (finalWork i s).state r
    = true := by
  apply finalWork_posted; unfold Work.ordered; rw [perform_controlRecords]; simp [h]

theorem posted_lane (k : LaneId) (r : Record) (h : r ∈ getLane (lanedWork i
    (settledWork i s)).laneRecords k) : posted s (finalWork i s).state r = true := by
  apply finalWork_posted; unfold Work.ordered; rw [perform_laneRecords]; simp only [List.mem_append, List.mem_flatMap]
  exact Or.inl (Or.inl (Or.inr ⟨k, mem_allLanes k, h⟩))

theorem posted_watch (k : LaneId) (r : Record) (h : r ∈ getLane (lanedWork i
    (settledWork i s)).watchRecords k) : posted s (finalWork i s).state r = true := by
  apply finalWork_posted; unfold Work.ordered; rw [perform_watchRecords]; simp only [List.mem_append,
      List.mem_flatMap]
  exact Or.inl (Or.inr ⟨k, mem_allLanes k, h⟩)

theorem posted_measure (r : Record) (h : r ∈ (settledWork i s).measureRecords) : posted s (finalWork i s).state r
    = true := by
  apply finalWork_posted; unfold Work.ordered; rw [perform_measureRecords]; simp [h]

/-- counters of a record -/
theorem finalWork_counters : (finalWork i s).state.timebase.cycle
    = (s.timebase.tick s.control.mode).cycle ∧ (finalWork i s).state.timebase.sample
    = (s.timebase.tick s.control.mode).sample := by
  rw [finalWork_timebase]; split <;> exact ⟨rfl, rfl⟩

theorem formRecord_eq (lane : Option LaneId) (ep : Half) (b : RecordBody) : formRecord
    (s.timebase.tick s.control.mode) lane ep b = (finalWork i s).state.record lane ep b := by
  simp [formRecord, State.record, finalWork_counters]

theorem protect_controlRecords (w : Work) : w.controlRecords ⊆ (w.protect i).controlRecords := by
  unfold Work.protect Work.act; dsimp only; split <;> simp

theorem openedWork_records_settledWork : (openedWork s).controlRecords ⊆ (settledWork i s).controlRecords := by
  have : (measuredWork i s).controlRecords = (openedWork s).controlRecords := by
    rw [measuredWork]; unfold Work.cycleScan; split <;> rfl
  rw [← this]; exact protect_controlRecords i _

theorem actOnRelease_records (w : Work) : w.controlRecords ⊆ w.actOnRelease.controlRecords := by
  unfold Work.actOnRelease; dsimp only; repeat' (first | (simp; done) | split)
end

theorem hearEnd_none (e : SampleEnv) (ended : PerLane Bool) (o : LaneOut) (h : o.listening
    = none) : hearEnd e ended o = o := by
  unfold hearEnd; rw [h]

theorem cascadeRounds_none (envs : PerLane SampleEnv) (k : LaneId) : ∀ (n : Nat) (os : PerLane LaneOut),
    (getLane os k).listening = none → getLane (cascadeRounds envs n os) k = getLane os k := by
  intro n; induction n with
  | zero => intro os _; rfl
  | succ n ih =>
    intro os h
    unfold cascadeRounds
    have e : getLane (tabLane fun k => hearEnd (getLane envs k) (lastEnds os) (getLane os k)) k = getLane os k := by
      rw [getLane_tabLane, hearEnd_none _ _ _ h]
    rw [ih _ (by rw [e]; exact h), e]

theorem lanesWork_none (envs : PerLane SampleEnv) (ls : PerLane Lane) (k : LaneId)
    (h : (laneWork (getLane envs k) (getLane ls k)).listening = none) :
    getLane (lanesWork envs ls) k = laneWork (getLane envs k) (getLane ls k) := by
  unfold lanesWork
  simp only [getLane_tabLane]
  rw [cascadeRounds_none _ _ _ _ (by rw [getLane_tabLane]; exact h), getLane_tabLane]
  unfold closeListening; rw [h]

section
variable (i : SampleInputs) (s : State)

/-- What lane k reads at the sample event. -/
def envOf (i : SampleInputs) (s : State) (k : LaneId) : SampleEnv :=
    (((settledWork i s).watches i).advanceRelays).sampleEnv i k

@[simp] theorem envOf_lane (k : LaneId) : (envOf i s k).lane = k := rfl
@[simp] theorem envOf_timebase (k : LaneId) : (envOf i s k).timebase
    = s.timebase.tick s.control.mode := by simp [envOf, Work.sampleEnv, State.laneEnv]
@[simp] theorem envOf_engine (k : LaneId) : (envOf i s k).engine
    = (settledWork i s).state.control.engine := by simp [envOf, Work.sampleEnv, State.laneEnv]

theorem settledWork_posted : (settledWork i s).state.port.posted
    = s.port.posted ∧ (settledWork i s).state.port.taken = s.port.taken := by
  rw [settledWork_port, measuredWork_port]
  have h : ∀ p : Port, p.requestScan.posted = p.posted ∧ p.requestScan.taken = p.taken := by
    intro p; unfold Port.requestScan; repeat' (first | exact ⟨rfl, rfl⟩ | split)
  split
  · exact ⟨(h _).1, (h _).2⟩
  · exact ⟨rfl, rfl⟩

@[simp] theorem envOf_posted (k : LaneId) : (envOf i s k).posted = getLane s.port.posted k := by
  simp only [envOf, Work.sampleEnv, State.laneEnv, Work.advanceRelays_port, Work.watches_port,
      (settledWork_posted i s).1]

@[simp] theorem envOf_taken (k : LaneId) : (envOf i s k).taken = getLane s.port.taken k := by
  simp only [envOf, Work.sampleEnv, State.laneEnv, Work.advanceRelays_port, Work.watches_port,
      (settledWork_posted i s).2]

@[simp] theorem envOf_cycleStart (k : LaneId) : (envOf i s k).cycleStart
    = s.cycleStartDue := by simp [envOf, Work.sampleEnv]
@[simp] theorem envOf_advance (k : LaneId) : (envOf i s k).advance = s.incrementDue := by simp [envOf, Work.sampleEnv]
@[simp] theorem envOf_released (k : LaneId) : (envOf i s k).released = s.releaseDue := by simp [envOf, Work.sampleEnv]
@[simp] theorem envOf_protection (k : LaneId) : (envOf i s k).protection
    = (settledWork i s).protection := by simp [envOf, Work.sampleEnv]
@[simp] theorem envOf_lastComposed (k : LaneId) : (envOf i s k).lastComposed
    = s.composer.lastComposed := by simp [envOf, Work.sampleEnv, (settledWork_composer_kept i s).2.2.2.2]
@[simp] theorem envOf_steady (k : LaneId) : (envOf i s k).steady
    = s.composer.steady := by simp [envOf, Work.sampleEnv, (settledWork_composer_kept i s).1]

@[simp] theorem envOf_figures (k : LaneId) : (envOf i s k).figures = (finalWork i s).state.measure.figures := by
  have : (finalWork i s).state.measure = (measuredWork i s).state.measure := by simp [finalWork]
  rw [this]; simp [envOf, Work.sampleEnv]

@[simp] theorem envOf_trig (k : LaneId) : (envOf i s k).trig = i.trig := rfl
@[simp] theorem envOf_previousTrig (k : LaneId) : (envOf i s k).previousTrig
    = s.previousTrig := by simp [envOf, Work.sampleEnv]

/-- The lanes' work at the sample event. -/
def outsOf (i : SampleInputs) (s : State) : PerLane LaneOut := lanesWork (tabLane (envOf i s)) s.lanes

theorem lanedWork_lanes (k : LaneId) : getLane (lanedWork i (settledWork i s)).state.lanes k
    = (getLane (outsOf i s) k).lane := by
  have : (lanedWork i (settledWork i s)).state.lanes = tabLane fun k => (getLane (lanesWork (tabLane (envOf i s))
      (((settledWork i s).watches i).advanceRelays).state.lanes) k).lane := rfl
  rw [this, getLane_tabLane]
  simp only [Work.advanceRelays_lanes, Work.watches_lanes, settledWork_lanes]; rfl

theorem lanedWork_laneRecords (k : LaneId) : ∀ r ∈ (getLane (outsOf i s) k).records,
    r ∈ getLane (lanedWork i (settledWork i s)).laneRecords k := by
  intro r hr
  have : getLane (lanedWork i (settledWork i s)).laneRecords k
      = getLane (((settledWork i s).watches i).advanceRelays).laneRecords k ++ (getLane (lanesWork (tabLane
      (envOf i s)) (((settledWork i s).watches i).advanceRelays).state.lanes) k).records := by
    show getLane (tabLane _) k = _
    rw [getLane_tabLane]; rfl
  rw [this]
  simp only [Work.advanceRelays_lanes, Work.watches_lanes, settledWork_lanes]
  exact List.mem_append_right _ hr

theorem lanedWork_happened (k : LaneId) : ∀ h ∈ (getLane (outsOf i s) k).happened,
    Happening.lane k h ∈ (finalWork i s).happened := by
  intro h hh
  apply finalWork_happened_lanedWork
  show _ ∈ (((settledWork i s).watches i).advanceRelays).happened ++ _
  refine List.mem_append_right _ (List.mem_flatMap.2 ⟨k, mem_allLanes k, List.mem_map.2 ⟨h, ?_, rfl⟩⟩)
  simp only [Work.advanceRelays_lanes, Work.watches_lanes, settledWork_lanes]; exact hh

theorem outsOf_none (k : LaneId) (h : (laneWork (envOf i s k) (getLane s.lanes k)).listening = none) :
    getLane (outsOf i s) k = laneWork (envOf i s k) (getLane s.lanes k) := by
  unfold outsOf
  rw [lanesWork_none] <;> rw [getLane_tabLane]; exact h

theorem finalWork_lane' (k : LaneId) : ∃ n, getLane (finalWork i s).state.lanes k
    = (getLane (outsOf i s) k).lane.addClips n := by
  rw [finalWork_lane, lanedWork_lanes]; exact ⟨_, rfl⟩
end

/-- A watch slot after its own work at the sample event, before any arming. -/
def watchOf (i : SampleInputs) (s : State) (k : LaneId) : WatchOut :=
  (getLane s.watches k).sampleWork (s.timebase.tick s.control.mode) k
      (finalWork i s).state.measure.figures s.cycleStartDue s.releaseDue (settledWork i s).protection
      (getLane i.watchFirst k)

theorem watchOf_eq (i : SampleInputs) (s : State) (k : LaneId) :
   (watchOf i s k) = (getLane (settledWork i s).state.watches k).sampleWork (settledWork i s).state.timebase k
       (settledWork i s).state.measure.figures (settledWork i s).cycleStart (settledWork i s).released
       (settledWork i s).protection (getLane i.watchFirst k) := by
  have hm : (finalWork i s).state.measure = (measuredWork i s).state.measure := by simp [finalWork]
  unfold watchOf; rw [hm]; simp
/-- A watch slot after any arming at the sample event. -/
def armedOf (i : SampleInputs) (s : State) (k : LaneId) : WatchOut :=
  (watchOf i s k).slot.armIf (s.timebase.tick s.control.mode) k s.measure.currentFloor (getLane (outsOf i s) k).arming

theorem armedOf_eq (i : SampleInputs) (s : State) (k : LaneId) : armedOf i s k =
   (getLane (((settledWork i s).watches i).advanceRelays).state.watches k).armIf
       (((settledWork i s).watches i).advanceRelays).state.timebase k
       (((settledWork i s).watches i).advanceRelays).state.measure.currentFloor
     (getLane (lanesWork (tabLane (envOf i s)) (((settledWork i s).watches i).advanceRelays).state.lanes) k).arming
         := by
  have hf : (measuredWork i s).state.measure.currentFloor
      = s.measure.currentFloor := by rw [measuredWork_measure]; simp [Measure.sample]
  have hw : getLane (((settledWork i s).watches i).advanceRelays).state.watches k = (watchOf i s k).slot := by
    rw [watchOf_eq]
    show getLane (tabLane _) k = _
    rw [getLane_tabLane]
    show WatchOut.slot (getLane (tabLane _) k) = _
    rw [getLane_tabLane]
  rw [hw]
  simp only [Work.advanceRelays_timebase, Work.watches_timebase, settledWork_timebase, Work.advanceRelays_measure,
      Work.watches_measure, settledWork_measure, hf, Work.advanceRelays_lanes, Work.watches_lanes, settledWork_lanes]
  rfl

theorem finalWork_watch (i : SampleInputs) (s : State) (k : LaneId) : getLane (finalWork i s).state.watches k
    = (armedOf i s k).slot := by
  have h1 : (finalWork i s).state.watches = (lanedWork i (settledWork i s)).state.watches := by
    simp only [finalWork, Work.enqueue_watches, Work.report_watches, perform_composedWork, Work.output_watches,
        composedWork, Work.commandRelays_watches, Work.compose_watches, Work.frequency_watches]
  rw [h1, armedOf_eq]
  show getLane (tabLane _) k = _
  rw [getLane_tabLane]
  show WatchOut.slot (getLane (tabLane _) k) = _
  rw [getLane_tabLane]; rfl

theorem lanedWork_watchRecords (i : SampleInputs) (s : State) (k : LaneId) : (∀ r ∈ (watchOf i s k).records,
    r ∈ getLane (lanedWork i (settledWork i s)).watchRecords k) ∧
  (∀ r ∈ (armedOf i s k).records, r ∈ getLane (lanedWork i (settledWork i s)).watchRecords k) := by
  have h : getLane (lanedWork i (settledWork i s)).watchRecords k
      = (getLane (settledWork i s).watchRecords k ++ (watchOf i s k).records) ++ (armedOf i s k).records := by
    rw [armedOf_eq, watchOf_eq]
    show getLane (tabLane _) k = _
    rw [getLane_tabLane]
    show getLane (tabLane _) k ++ WatchOut.records (getLane (tabLane _) k) = _
    rw [getLane_tabLane, getLane_tabLane, getLane_tabLane]; rfl
  rw [h]
  exact ⟨fun r hr => List.mem_append_left _ (List.mem_append_right _ hr), fun r hr => List.mem_append_right _ hr⟩

theorem lanedWork_watch_happened (i : SampleInputs) (s : State) (k : LaneId) : ∀ h ∈ watchHappening k
    (watchOf i s k).ended, h ∈ (finalWork i s).happened := by
  intro h hh
  apply finalWork_happened_lanedWork
  apply lanes_happened
  apply advanceRelays_happened
  have hm : (finalWork i s).state.measure = (measuredWork i s).state.measure := by simp [finalWork]
  show _ ∈ _ ++ _
  refine List.mem_append_right _ (List.mem_flatMap.2 ⟨k, mem_allLanes k, ?_⟩)
  rw [watchOf_eq] at hh
  rw [getLane_tabLane]
  exact hh

theorem abandon_armed (w : Watch) (tb : Timebase) (k : LaneId) : (w.abandon tb k).slot.armed = false := by
  unfold Watch.abandon Watch.finish; split <;> simp_all

theorem cycle_idle (w : Watch) (tb : Timebase) (k : LaneId) (f : Figures) (h : w.armed
    = false) : (w.cycleWork tb k f).slot = w := by
  unfold Watch.cycleWork; simp [h]

theorem watch_protected (w : Watch) (tb : Timebase) (k : LaneId) (f : Figures) (c r first : Bool) :
    (w.sampleWork tb k f c r true first).slot.armed = false := by
  unfold Watch.sampleWork
  cases first
  · simp only [Bool.false_eq_true, if_false, WatchOut.andThen, if_true]
    cases c
    · simp [abandon_armed]
    · simp only [if_true]; rw [cycle_idle _ _ _ _ (abandon_armed _ _ _)]; exact abandon_armed _ _ _
  · simp only [if_true, WatchOut.andThen]; exact abandon_armed _ _ _

theorem watch_released (w : Watch) (tb : Timebase) (k : LaneId) (f : Figures) (c p first : Bool) :
    (w.sampleWork tb k f c true p first).slot.armed = false := by
  unfold Watch.sampleWork
  have ha := abandon_armed w tb k
  generalize (w.abandon tb k) = o at ha
  obtain ⟨sl, rs, en⟩ := o
  simp at ha
  cases first <;> cases c <;> cases p <;> simp [WatchOut.andThen, cycle_idle, abandon_armed, ha]

/-! ### The lane's own work -/
theorem takeRms_kept (l : Lane) (f : Figures) : (l.takeRms f).state = l.state ∧ (l.takeRms f).current
    = l.current ∧ (l.takeRms f).clips = l.clips ∧
   (l.takeRms f).application = l.application ∧ (l.takeRms f).pendingStop = l.pendingStop ∧ (l.takeRms f).next
       = l.next ∧ (l.takeRms f).request = l.request ∧
   (l.takeRms f).advance = l.advance ∧ (l.takeRms f).late = l.late ∧ (l.takeRms f).iref
       = l.iref ∧ (l.takeRms f).factor = l.factor ∧ (l.takeRms f).countdown = l.countdown ∧ (l.takeRms f).start
       = l.start := by
  unfold Lane.takeRms; split
  · dsimp only; split <;> simp
  · simp
/-- The lane once it has taken the RMS voltage of a cycle start (R61). -/
def takenLane (i : SampleInputs) (s : State) (k : LaneId) : Lane :=
  if s.cycleStartDue && (getLane s.lanes k).state == .active then (getLane s.lanes k).takeRms
      (finalWork i s).state.measure.figures else getLane s.lanes k

theorem takenLane_kept (i : SampleInputs) (s : State) (k : LaneId) : (takenLane i s k).state
    = (getLane s.lanes k).state ∧ (takenLane i s k).current = (getLane s.lanes k).current ∧ (takenLane i s k).clips
    = (getLane s.lanes k).clips ∧
   (takenLane i s k).application = (getLane s.lanes k).application ∧ (takenLane i s k).pendingStop
       = (getLane s.lanes k).pendingStop ∧ (takenLane i s k).next
       = (getLane s.lanes k).next ∧ (takenLane i s k).request = (getLane s.lanes k).request ∧
   (takenLane i s k).advance = (getLane s.lanes k).advance ∧ (takenLane i s k).late
       = (getLane s.lanes k).late ∧ (takenLane i s k).iref = (getLane s.lanes k).iref ∧ (takenLane i s k).factor
       = (getLane s.lanes k).factor ∧ (takenLane i s k).countdown
       = (getLane s.lanes k).countdown ∧ (takenLane i s k).start = (getLane s.lanes k).start := by
  unfold takenLane; split
  · exact takeRms_kept _ _
  · simp

theorem laneWork_eq (i : SampleInputs) (s : State) (k : LaneId) : laneWork (envOf i s k) (getLane s.lanes k) =
   if (settledWork i s).protection then protectWork (envOf i s k) (takenLane i s k)
   else if s.releaseDue then (releaseWork (envOf i s k) (takenLane i s k)).andThen fun l => if l.pendingStop then
       stopWork (envOf i s k) l else { lane := l }
   else if (takenLane i s k).pendingStop then stopWork (envOf i s k) (takenLane i s k)
   else ownWork (envOf i s k) (takenLane i s k) := by
  unfold laneWork takenLane
  simp

theorem cut_record (i : SampleInputs) (s : State) (k : LaneId) (ep : Episode) (h1 : (getLane s.lanes k).state
    = .active) (h2 : (getLane s.lanes k).current = some ep) :
   ∃ stretched lo hi span, (finalWork i s).state.record (some k) (BitVec.ofNat 16 ep.index)
          (.episodeEnd true stretched lo hi (BitVec.ofNat 32 (getLane s.lanes k).clips) span
            (BitVec.ofNat 16 (getLane s.lanes k).application)) ∈ cut (envOf i s k) (takenLane i s k) := by
  obtain ⟨a1, a2, a3, a4, _⟩ := takenLane_kept i s k
  unfold cut
  rw [a1, h1, a2, h2]
  simp only [List.mem_singleton]
  refine ⟨(openFigures ep (envOf i s k).spans).2, BitVec.ofNat 16 (takenLane i s k).rmsMin,
      BitVec.ofNat 16 (takenLane i s k).rmsMax, BitVec.ofNat 32 (openFigures ep (envOf i s k).spans).1, ?_⟩
  rw [← formRecord_eq]
  unfold endRecord LaneEnv.record
  rw [a3, a4]
  simp only [envOf_timebase]
  rfl

theorem claims_none_of (ls : PerLane Lane) (h : ∀ k, (getLane ls k).state ≠ .active) : claimsOf ls = Claims.none := by
  have c1 : ∀ k x f, (getLane ls k).claims x f = false := by
    intro k x f; unfold Lane.claims; split
    · rename_i hs _; exact absurd hs (h k)
    · rfl
  have c2 : ∀ k, (getLane ls k).claimsFreq = false := by
    intro k; unfold Lane.claimsFreq; split
    · rename_i hs _; exact absurd hs (h k)
    · rfl
  unfold claimsOf
  simp only [c1, c2]; rfl

/-- A lane's work where a RELEASE is acted on: no listening, no arming, not ACTIVE, its cut posted (R68). -/
theorem laneWork_release (i : SampleInputs) (s : State) (k : LaneId) (h : s.releaseDue = true) :
   (laneWork (envOf i s k) (getLane s.lanes k)).listening
       = none ∧ (laneWork (envOf i s k) (getLane s.lanes k)).arming = none ∧
   ((laneWork (envOf i s k) (getLane s.lanes k)).lane.state ≠ .active) ∧
   (∀ r ∈ cut (envOf i s k) (takenLane i s k), (getLane s.lanes k).state ≠ .halted →
       r ∈ (laneWork (envOf i s k) (getLane s.lanes k)).records) := by
  rw [laneWork_eq, h]
  cases (settledWork i s).protection
  · simp only [Bool.false_eq_true, if_false, if_true]
    unfold releaseWork
    rw [(takenLane_kept i s k).1]
    by_cases hh : (getLane s.lanes k).state = .halted
    · rw [if_pos hh]
      simp only [LaneOut.andThen]
      cases (takenLane i s k).pendingStop <;> simp [stopWork, (takenLane_kept i s k).1, hh, Lane.halted]
    · rw [if_neg hh]
      simp only [LaneOut.andThen]
      have : ({ (takenLane i s k).emptied with state := .idle } : Lane).pendingStop
          = (takenLane i s k).pendingStop := rfl
      rw [this]
      cases (takenLane i s k).pendingStop <;> simp [stopWork, Lane.halted] <;> tauto
  · simp only [if_true]
    unfold protectWork
    rw [(takenLane_kept i s k).1]
    by_cases hh : (getLane s.lanes k).state = .halted
    · simp [hh, (takenLane_kept i s k).1]
    · simp [hh, Lane.halted]

theorem runs_eq (i : SampleInputs) (s : State) (k : LaneId) (h1 : 1 ≤ s.measure.tripCount) (h : s.laneRuns i k
    = true) :
  s.rstLow = false ∧ s.releaseDue = false ∧ s.unprotected i = true ∧ (getLane s.lanes k).pendingStop = false ∧
   laneWork (envOf i s k) (getLane s.lanes k) = ownWork (envOf i s k) (takenLane i s k) ∧
       (settledWork i s).state.control.engine = s.openedState := by
  unfold State.laneRuns at h
  simp only [Bool.and_eq_true, Bool.not_eq_true'] at h
  obtain ⟨⟨⟨a, b⟩, c⟩, d⟩ := h
  refine ⟨a, c, d, b, ?_, ?_⟩
  · rw [laneWork_eq, settledWork_protection i s h1, d, c, (takenLane_kept i s k).2.2.2.2.1, b]; rfl
  · rw [settledWork_engine i s h1, (protectionDue_none i s).2 d]

theorem advanced_eq (i : SampleInputs) (s : State) (k : LaneId) :
    ((takenLane i s k).advanced s.incrementDue).phaseAdvance = s.advanceDue k := by
  unfold Lane.phaseAdvance Lane.advanced State.advanceDue advanceUnits fullCycle
  rw [(takenLane_kept i s k).2.2.2.2.2.2.2.1]

theorem governs_none (ls : PerLane Lane) (k : LaneId) (h : (getLane ls k).state ≠ .active) (x : Phase) :
    (claimsOf ls).governs x k = false := by
  have c1 : ∀ x f, (getLane ls k).claims x f = false := by
    intro x f; unfold Lane.claims; split
    · rename_i hs _; exact absurd hs h
    · rfl
  have c2 : (getLane ls k).claimsFreq = false := by
    unfold Lane.claimsFreq; split
    · rename_i hs _; exact absurd hs h
    · rfl
  simp [Claims.governs, claimsOf, c1, c2]

/-- Acting on the next slot leaves the lane not ACTIVE, not listening and arming nothing (R48). -/
theorem nextSlot_state (e : LaneEnv) (l : Lane) : (actOnNextSlot e l).lane.state ≠ .active ∧
    (actOnNextSlot e l).listening = none ∧ (actOnNextSlot e l).arming = none := by
  have hre : ∀ c a b (l : Lane), l.state ≠ .active → (refuse e c a b l).lane.state ≠ .active ∧
      (refuse e c a b l).listening = none ∧ (refuse e c a b l).arming = none := by
    intro c a b l h; unfold refuse; split
    · simp [Lane.halted]
    · simp [h]
  have hct : ∀ l : Lane, l.state ≠ .active → (cueTest e l).lane.state ≠ .active ∧ (cueTest e l).listening
      = none ∧ (cueTest e l).arming = none := by
    intro l h; unfold cueTest
    split
    · split
      · simp [h]
      · split
        · unfold Lane.requestCue; repeat' split
          all_goals simp [h]
        · exact hre _ _ _ _ h
    · simp [h]
  unfold actOnNextSlot; dsimp only
  split
  · unfold becomeCurrent; dsimp only; split
    · simp
    · exact hct _ (by simp)
  · simp
  · exact hct _ (by simp)
  · simp [Lane.halted]

theorem end_listening (e : SampleEnv) (ep : Episode) (l : Lane) : (endApplication e ep l).listening = none := by
  unfold endApplication; dsimp only
  split
  · simp only [LaneOut.andThen]; split <;> rfl
  · simp only [LaneOut.andThen, (nextSlot_state _ _).2.1]; rfl

end Sys2Proof.Machine
end

