-- ==== Sys2Proof/Tests/Slice0.lean ====
section
/-! SUPPORT. Tests: the check on well-formed commands, small steps with results from the manual's tables, and for each
statement with hypotheses a witness that they can be met together, clause by clause. -/

namespace Sys2Proof.Tests

open Sys2Proof.Machine

/-! ### Helpers -/

/-- Quiet pins, and the first choice of every open order. -/
def quiet : SampleInputs :=
  { trig := false, ready := true, fault := false, relayBefore := perPhase false, order := .tripFaultLoss
    watchFirst := perLane false, expiryFirst := true }

/-- The state a command leaves. -/
def after (c : Instr) (s : State) : State :=
  match exec c s with
  | .next t => t
  | _ => s

/-- The part in an engine state, no restart due, with a trip code that no current reaches (R140). -/
def inState (e : EngineState) : State :=
  { State.reset with
    control := { State.reset.control with engine := e }
    timebase := { State.reset.timebase with restartDue := .none }
    measure := { State.reset.measure with tripCode := 65535 } }

/-- The same, with θ at a given angle. -/
def atAngle (e : EngineState) (theta : Word) : State :=
  { inState e with timebase := { (inState e).timebase with theta := theta } }

/-- A transaction of a kind in the slot. -/
def withSlot (kind : BusKind) (s : State) : State :=
  { s with
    port := { s.port with
      slot := some { kind := kind, base := 4096, address := 4096, writes := false, length := 1, data := [], timer := 0
                     orphan := false } } }

/-- The transaction in the slot disowned by a soft reset. -/
def disowned (s : State) : State :=
  { s with port := { s.port with slot := s.port.slot.map fun t => { t with orphan := true } } }

/-- The transaction in the slot one sample event short of the wait limit. -/
def waiting63 (s : State) : State :=
  { s with port := { s.port with slot := s.port.slot.map fun t => { t with timer := 63 } } }

/-- Lane 0 as given. -/
def withLane0 (l : Lane) (s : State) : State := { s with lanes := setLane s.lanes .l0 l }

/-- A progress due. -/
def withProgress (p : Progress) (s : State) : State := { s with control := { s.control with progress := p } }

/-- A RELEASE pending. -/
def releasing (s : State) : State := { s with control := { s.control with pendingRelease := true } }

/-- Relay A as given. -/
def withRelayA (st : RelayState) (remaining : Nat) (s : State) : State :=
  { s with
    relays := { s.relays with
      relay := setPhase s.relays.relay .A { state := st, remaining := remaining, openSpan := 0 } } }

/-- A loaded DWELL episode of one cycle on phase A. -/
def dwell : Episode :=
  { index := 3, kind := .dwell, mask := ⟨true, false, false⟩, reference := .A, trigger := .immediate, duration := 3600
    entry := 0, hold := 3600, exit := 0, repeatCount := 1, repeatGap := 0, markOut := false, next := none, watch := none
    components := [], clamped := false, rampCut := false }

/-- A lane in a state with a current episode. -/
def holding (st : LaneState) (ep : Episode) : Lane :=
  { Lane.reset with state := st, current := some ep, application := 1 }

/-- A FETCHING lane. -/
def fetching : Lane := { Lane.reset with state := .fetching }

/-- A HALTED lane. -/
def halted : Lane := { Lane.reset with state := .halted }

/-- Lane 0 has the given number of cue entries posted. -/
def posted0 (d : Word) (s : State) : State := { s with port := { s.port with posted := setLane s.port.posted .l0 d } }

/-- An ARMED watch in slot 0 with a reference current of 0. -/
def watched (hold limit : Nat) (s : State) : State :=
  { s with
    watches := setLane s.watches .l0
      { Watch.idle with armed := true, part := { band := 10, hold := hold, limit := limit } } }

/-- An ENGINE record with nothing in it, for a queue that must not be empty. -/
def aRecord : Record :=
  { lane := none, gap := 0, cycle := 0, sample := 0, episode := 0xFFFF, body := .engine .start .loading .none none 0 }

/-- One record waits. -/
def queued (s : State) : State := { s with journal := { queue := [aRecord], drops := 0 } }

/-! ### The check on well-formed commands (R170) -/

theorem test_full_write_to_flags_is_no_ignored_write :
    (Instr.ignoredRegisterWrite 0x0C 4 0).wellFormed = false := by decide

theorem test_write_of_no_byte_is_no_write : (Instr.ignoredRegisterWrite 0x04 0 0).wellFormed = false := by decide

theorem test_write_of_five_bytes_is_no_write : (Instr.ignoredRegisterWrite 0x1C 5 0).wellFormed = false := by decide

/-- R170: any write of less than a full word is ignored, an unaligned one too. -/
theorem test_part_word_writes_are_ignored :
    (Instr.ignoredRegisterWrite 0x04 3 0).wellFormed = true ∧ (Instr.ignoredRegisterWrite 0x05 2 0).wellFormed = true ∧
      after (.ignoredRegisterWrite 0x08 4 0xFF) State.reset = State.reset ∧
      after (.ignoredRegisterWrite 0x05 2 0xFFFF) (inState .running) = inState .running := by decide

/-- R170: a write to 0x1C to 0x1F is ignored, and a read there returns 0. -/
theorem test_reserved_offsets :
    ∀ offset ∈ [0x1C, 0x1D, 0x1E, 0x1F], (Instr.ignoredRegisterWrite offset 4 1).wellFormed = true ∧
      after (.ignoredRegisterWrite offset 4 1) State.reset = State.reset ∧
      State.reset.readRegister offset = some 0 := by decide

theorem test_write_past_the_window_is_no_ignored_write :
    (Instr.ignoredRegisterWrite 0x20 1 0).wellFormed = false := by decide

theorem test_byte_write_to_ctrl_is_ignored : (Instr.ignoredRegisterWrite 0x04 1 1).wellFormed = true := by decide

theorem test_full_write_to_ident_is_ignored : (Instr.ignoredRegisterWrite 0x00 4 1).wellFormed = true := by decide

/-! ### Tables of the manual -/

/-- The rows of R90's table. -/
theorem test_increments :
    [45000, 49500, 50000, 50001, 51000, 60000, 65000].map incrementOf =
      [7549747, 8304722, 8388608, 8388776, 8556380, 10066330, 10905190] := by decide

/-- The rows of R106's table. -/
theorem test_sine_lookups :
    [0x40000000#32, 0x40000400#32, 0x40200000#32, 0x40300000#32, 0x00200000#32, 0xFFE00000#32].map sineOf =
      [131071, 131070, 131070, 131069, 402, -402] := by decide

/-- The rows of R42's table. -/
theorem test_cut_ramps :
    [(3600, 600, 600), (1800, 1200, 900), (500, 900, 200), (0, 0, 0), (0, 10, 0)].map
        (fun r => cutRamps r.1 r.2.1 r.2.2) =
      [(600, 2400, 600, false), (1200, 0, 600, true), (500, 0, 0, true), (0, 0, 0, false), (0, 0, 0, true)] := by
  decide

/-- R52's table: the angle of sample n is n × 8 388 608, and 1 unit fires at sample 1, 900 at 128, 2700 at 384. -/
theorem test_angle_arcs :
    arcContains (unitsToAngle 1) 0 8388608 = true ∧
      arcContains (unitsToAngle 900) (127 * 8388608) (128 * 8388608) = true ∧
      arcContains (unitsToAngle 900) (128 * 8388608) (129 * 8388608) = false ∧
      arcContains (unitsToAngle 2700) (383 * 8388608) (384 * 8388608) = true ∧
      arcContains (unitsToAngle 0) (511 * 8388608) 0 = true := by decide

/-- R111: the peak of the fundamental gives Kx at full level and 2 × Kx at E = 20 000; R112: a code equal to C is not
clamped. -/
theorem test_codes :
    scaled (modulated 131071 10000 10000) 400000 = 400000 ∧ scaled (modulated 131071 20000 10000) 400000 = 800000 ∧
      limited 500000 500000 = (500000, false) ∧ limited 500000 500001 = (500000, true) ∧
      limited 500000 (-500001) = (-500000, true) := by decide

/-- R108's bound: amplitude 3000 at the peak gives 39 321. -/
theorem test_component_term :
    componentTerm 0x40000000 { order := 1, amplitude := 3000, phase := 0 } = 39321 ∧
      componentAngle 0x40000000 { order := 3, amplitude := 3000, phase := 900 } = 0 := by decide

/-- IDENT of mode 0 after reset (R170); an absent offset gives no answer. -/
theorem test_ident : State.reset.readRegister 0x00 = some 0x00D60100 ∧ State.reset.readRegister 0x20 = none := by decide

/-- R160: CLEAR and START of one write are taken in the order CLEAR, START; with SRST the soft reset alone. -/
theorem test_ctrl_write_order :
    commandsOfWrite 0x04 4 0x09 = [.clear, .start] ∧ commandsOfWrite 0x04 4 0x1F = [.softReset] ∧
      commandsOfWrite 0x04 4 0x0F = [.nudge, .clear, .start, .release] := by decide

/-- R175: both bits of one lane give the stop alone. -/
theorem test_lanectl_write : commandsOfWrite 0x18 4 0x0103 = [.laneStop .l0, .laneStop .l1] := by decide

/-- R164: the bytes of an ENGINE record of a trip on phase B, and the words in which they are written. -/
theorem test_record_bytes :
    (let r : Record := { lane := none, gap := 5, cycle := 0x01020304, sample := 0x0506, episode := 0xFFFF
                         body := .engine .trip .tripped .none (some .B) 0x1234 }
     r.bytes = [7, 255, 5, 8, 4, 3, 2, 1, 6, 5, 255, 255, 6, 0, 1, 0, 0x34, 0x12] ++ List.replicate 14 0 ∧
       r.words = [0x0805FF07, 0x01020304, 0xFFFF0506, 0x00010006, 0x00001234, 0, 0, 0]) := by decide

/-- No word spells a command: the opcode table gives no bits. -/
theorem test_no_word_decodes : decodeTableWord 32 0 = none := by decide

/-! ### One step of each command -/

theorem test_power_on_reset_latches_the_mode : (after (.powerOnReset true false) State.reset).control.mode = 2 := by decide

theorem test_start_posts_loading :
    (after .start State.reset).journal.queue.map Record.body = [.engine .start .loading .none none 0] := by decide

theorem test_release_in_loading_is_ignored : (after .release (inState .loading)).control.pendingRelease = false := by decide

theorem test_nudge_in_tripped_requests_a_scan : (after .nudge (inState .tripped)).port.scanRequest = true := by decide

theorem test_clear_in_tripped_waits_for_the_relays :
    (after .clear (withRelayA .opening 5 (inState .tripped))).control.engine = .tripped ∧
      (after .clear (withRelayA .opening 5 (inState .tripped))).control.deferredClear = true := by decide

theorem test_clear_in_faulted : (after .clear (inState .faulted)).control.engine = .standby := by decide

theorem test_soft_reset_ends_a_run : (after .softReset (inState .running)).control.engine = .standby := by decide

theorem test_flags_write_keeps_ones :
    (after (.flagsWrite 0x01) { State.reset with window := { State.reset.window with flags := 0x21 } }).window.flags =
      0x01 := by decide

theorem test_mask_write_raises_alert :
    (after (.maskWrite 0xFFFFFF20) { State.reset with window := { State.reset.window with flags := 0x20 } }).window =
      { flags := 0x20, mask := 0x3F20, alert := false, notice := true } := by decide

theorem test_planbase_takes_its_low_bits_as_zero :
    (after (.planbaseWrite 0x12345FFF) State.reset).port.planBase = 0x12345000 := by decide

theorem test_planbase_is_ignored_in_running :
    (after (.planbaseWrite 0x12345FFF) (inState .running)).port.planBase = 0 := by decide

theorem test_lane_stop_reads_in_lanectl : (after (.laneStop .l2) State.reset).readRegister 0x18 = some 0x04 := by decide

theorem test_resume_frees_a_halted_lane :
    (getLane (after (.laneResume .l0) (withLane0 halted State.reset)).lanes .l0).state = .idle := by decide

theorem test_sample_event_advances_theta :
    (after (.sampleEvent quiet) (inState .standby)).timebase.theta = 8388608 := by decide

theorem test_cycle_start_keeps_the_residue :
    (after (.cycleStart quiet) (atAngle .standby 0xFFFFFFFF)).timebase.theta = 8388607 ∧
      (after (.cycleStart quiet) (atAngle .standby 0xFFFFFFFF)).timebase.cycle = 1 := by decide

theorem test_restart_after_reset :
    (after (.restart quiet) State.reset).timebase.restartDue = .none ∧
      (after (.cycleStart quiet) State.reset).timebase.restartDue = .afterReset := by decide

theorem test_stop_carried_out :
    (getLane (after (.stopCarriedOut .l0 quiet) (after (.laneStop .l0) (inState .standby))).lanes .l0).state =
      .halted := by decide

theorem test_release_acted_on :
    (after (.releaseActedOn quiet) (releasing (inState .running))).control.engine = .releasing := by decide

/-- One sample event of a 50 Hz angle advances 7 angle units. -/
theorem test_application_end :
    (let run (duration : Nat) : State := withLane0 (holding .active { dwell with duration := duration }) (inState .running)
     (getLane (after (.applicationEnd .l0 quiet) (run 7)).lanes .l0).state = .idle ∧
       (getLane (after (.sampleEvent quiet) (run 8)).lanes .l0).state = .active) := by decide

theorem test_gap_end :
    (getLane (after (.gapEnd .l0 quiet)
      (withLane0 (holding .gap { dwell with repeatGap := 7 }) (inState .running))).lanes .l0).state = .waiting := by decide

theorem test_flicker_change :
    (getLane (after (.flickerChange .l0 quiet)
      (withLane0 { holding .active { dwell with kind := .flicker 100 60 25600 } with factor := 10100, countdown := 1 }
        (inState .running))).lanes .l0).factor = 9900 := by decide

theorem test_softstart_complete :
    (after (.softstartComplete quiet) (inState .softstart)).control.progress = .running := by decide

theorem test_release_ramp_complete :
    (after (.releaseRampComplete quiet) (releasing (inState .closing))).composer.rampComplete = true := by decide

theorem test_relay_operation_complete :
    (after (.relayOperationComplete .A quiet) (withRelayA .opening 1 (inState .standby))).relays.relay.a.state =
      .opened := by decide

theorem test_enter_softstart :
    (after (.enterSoftstart quiet) (withProgress .softstart (inState .closing))).control.engine = .softstart := by decide

theorem test_enter_running :
    (after (.enterRunning quiet) (withProgress .running (inState .softstart))).window.flags = 0x20 := by decide

theorem test_released :
    (after (.released quiet) (withProgress .standby (inState .releasing))).control.engine = .standby := by decide

theorem test_deferred_clear :
    (after (.deferredClear quiet) (withProgress .standby { inState .tripped with
      control := { (inState .tripped).control with deferredClear := true } })).control.deferredClear = false := by decide

/-- A trip code of 0 is reached by every sample (R140), and a trip count of 1 by the first. -/
theorem test_trip :
    (after (.trip quiet) { inState .running with measure := Measure.reset }).control.engine = .tripped := by decide

theorem test_meas_lost :
    (after (.measLost quiet) { inState .running with
      measure := { (inState .running).measure with liveStale := 255 } }).control.engine = .faulted := by decide

theorem test_cycle_summary :
    (after (.cycleSummary quiet) { atAngle .running 0xFFFFFFFF with
      measure := { (inState .running).measure with summaryPeriod := 1 } }).journal.queue.length = 1 := by decide

theorem test_recovered :
    (after (.recovered .l0 quiet) (watched 1 5 (atAngle .running 0xFFFFFFFF))).watches.l0.armed = false := by decide

theorem test_not_recovered :
    (after (.notRecovered .l0 quiet) (watched 2 1 (atAngle .running 0xFFFFFFFF))).watches.l0.armed = false := by decide

theorem test_marker_pulse :
    (after (.markerPulseDue quiet) { inState .standby with
      link := { (inState .standby).link with markerRequest2 := true } }).link.markerCount = 4 := by decide

theorem test_marker_countdown_end :
    (after (.markerCountdownEnd quiet) { inState .standby with
      link := { (inState .standby).link with marker := true, markerCount := 1 } }).link.marker = false := by decide

/-- High byte first: FF 38 is -200; the check byte makes the sum 0 modulo 256. -/
def minus200 : FrameArrival :=
  { bytes := [0xFF, 0x38, 0, 0, 0, 0, 0, 0, 0, 0, 0, 0, 0xC9], ended := true, acrossSoftReset := false }

theorem test_measurement_frame :
    (after (.measurementFrame minus200) State.reset).measure.holder = some { v := ⟨-200, 0, 0⟩, i := ⟨0, 0, 0⟩ } := by
  decide

theorem test_arbiter_grants_the_load :
    (after .arbiterGrant (after .start State.reset)).port.slot.map Transaction.length = some 17 := by decide

theorem test_run_settings_read :
    (after (.runSettingsReadComplete (.readCount 7)) (withSlot (.loadReadCount (Vector.replicate 17 0))
      (inState .loading))).port.slot.map Transaction.address = some (4096 + 216) := by decide

theorem test_load_complete_enters_closing :
    (after .loadComplete (withSlot (.loadWriteCount (Vector.replicate 17 0) 7)
      { inState .loading with link := { (inState .loading).link with ready := true } })).control.engine = .closing := by
  decide

theorem test_scan_complete_judges_the_fill :
    (after (.scanComplete (Vector.replicate 7 0xFFFFFEFF)) (withSlot .scan (inState .running))).port.jbad = true ∧
      (after (.scanComplete (Vector.replicate 7 0xFFFFFF00)) (withSlot .scan (inState .running))).port.jbad = false := by
  decide

theorem test_cue_fetch_advances_the_taken_count :
    (after (.cueFetchComplete 9) (withSlot (.laneFetch .l0 .cue true)
      (withLane0 fetching (inState .running)))).port.taken.l0 = 1 ∧
    (getLane (after (.cueFetchComplete 9) (withSlot (.laneFetch .l0 .cue true)
      (withLane0 fetching (inState .running)))).lanes .l0).state = .halted := by decide

/-- A record of zeros has kind 0 (R25). -/
theorem test_episode_fetch_refuses_kind_zero :
    (after (.episodeFetchComplete (Vector.replicate 9 0)) (withSlot (.laneFetch .l0 (.episode 2) true)
      (withLane0 fetching (inState .running)))).journal.queue.map Record.body =
      [.planRefused .unknownKind 2, .laneHalted .unknownKind] := by decide

/-- Kind 7, no mask, trigger IMMEDIATE: a DWELL record (R25). -/
theorem test_episode_fetch_loads_dwell :
    (getLane (after (.episodeFetchComplete ((Vector.replicate 9 0).set 0 7)) (withSlot (.laneFetch .l0 (.episode 2) true)
      (withLane0 fetching (inState .running)))).lanes .l0).state = .waiting := by decide

/-- A SHAPE episode of shape set 1. -/
def shaped : Episode := { dwell with kind := .shape 1 }

theorem test_shape_count_of_thirteen_is_refused :
    (getLane (after (.shapeCountReadComplete 13) (withSlot (.laneFetch .l0 (.shapeCount shaped) true)
      (withLane0 fetching (inState .running)))).lanes .l0).state = .halted := by decide

theorem test_shape_component_is_loaded :
    ((getLane (after (.shapeComponentReadComplete ((Vector.replicate 18 0).set 0 (5 + 65536 * 4000)))
      (withSlot (.laneFetch .l0 (.shapeComponents shaped 1) true)
        (withLane0 fetching (inState .running)))).lanes .l0).current.map Episode.components) =
      some [{ order := 5, amplitude := 3000, phase := 0 }] := by decide

theorem test_taken_write_back_clears_the_mark :
    (after .takenCountWriteBackComplete (withSlot (.takenCount .l0 0) { inState .running with
      port := { (inState .running).port with takenOwed := perLane true } })).port.takenOwed.l0 = false := by decide

theorem test_record_write_advances_the_written_count :
    (after .journalRecordWriteComplete (withSlot (.journalRecord 0) (queued (inState .running)))).port.written = 1 := by
  decide

theorem test_written_count_sets_flags_journal :
    (after .writtenCountWriteComplete (withSlot .journalCount (inState .running))).window.flags = 0x01 := by decide

theorem test_bus_error_sets_flags_bus : (after .busErrorResponse (withSlot .scan (inState .running))).window.flags = 0x04 := by
  decide

theorem test_bus_wait_expiry_at_sixty_four :
    (after (.busWaitExpiry quiet) (waiting63 (withSlot .scan (inState .running)))).port.slot = none ∧
      ((after (.sampleEvent quiet) (withSlot .scan (inState .running))).port.slot.map Transaction.timer) = some 1 := by decide

theorem test_rst_held_low_answers_no_read : (after .rstHeldLow State.reset).readRegister 0x00 = none := by decide

/-! ### Witnesses: the hypotheses of each statement are met, clause by clause, boundary values among them -/

theorem witness_CommandsLeaveTheQueue : ∃ t, exec .nudge State.reset = .next t := ⟨_, rfl⟩

theorem witness_WellFormedCommandsComplete :
    (∀ c ∈ [Instr.start, .sampleEvent quiet, .ignoredRegisterWrite 0x1F 1 0], c.wellFormed = true) ∧
      ∀ offset ∈ [0x01, 0x04, 0x07, 0x09, 0x18, 0x1B, 0x20],
        offset ≠ 0x00 ∧ offset ≠ 0x08 ∧ ¬(0x1C ≤ offset ∧ offset < 0x20) := by decide

/-- A cue fetch of lane 0 completes. -/
def cueFetching : State := withSlot (.laneFetch .l0 .cue true) (withLane0 fetching (inState .running))

theorem witness_TakenCountsMoveAtCueFetches :
    ∃ t, exec (.cueFetchComplete 9) cueFetching = .next t ∧ t.port.taken ≠ cueFetching.port.taken :=
  ⟨_, rfl, by decide⟩

theorem witness_SoftResetValues : (withSlot .scan (inState .running)).rstLow = false := rfl

theorem witness_RstHeldLowSilencesThePart :
    (after .rstHeldLow State.reset).rstLow = true ∧ Instr.start.wellFormed = true ∧
      (∀ m1 m0, Instr.start ≠ .powerOnReset m1 m0) ∧ Instr.start ≠ .rstHeldLow := by
  decide

theorem witness_StartEntersLoading :
    (State.reset.rstLow = false ∧ State.reset.control.engine = .standby) ∧
      (inState .running).rstLow = false ∧ (inState .running).control.engine ≠ .standby := by decide

theorem witness_ReleaseAndNudgeAreRequests_release :
    (inState .running).rstLow = false ∧ (inState .running).control.engine ≠ .loading ∧
      (inState .loading).rstLow = false ∧ (inState .loading).control.engine = .loading := by decide

theorem witness_ReleaseAndNudgeAreRequests_nudge :
    ((inState .running).rstLow = false ∧ (inState .running).control.engine ≠ .loading ∧
      (inState .running).port.slot = none) ∧
    ((disowned (withSlot .scan (inState .running))).control.engine ≠ .loading ∧
      ∃ tr, (disowned (withSlot .scan (inState .running))).port.slot = some tr ∧ tr.kind = .scan ∧ tr.orphan = true) ∧
    (∃ tr, (withSlot .scan (inState .running)).port.slot = some tr ∧ tr.kind = .scan ∧ tr.orphan = false) ∧
    (inState .loading).control.engine = .loading :=
  ⟨by decide, ⟨by decide, _, rfl, rfl, rfl⟩, ⟨_, rfl, rfl, rfl⟩, rfl⟩

/-- TRIPPED with a deferred CLEAR pending. -/
def deferring : State :=
  { inState .tripped with control := { (inState .tripped).control with deferredClear := true } }

theorem witness_ClearLeavesTripOrFault :
    ((inState .tripped).rstLow = false ∧ (inState .tripped).control.engine = .tripped ∧
      (inState .tripped).control.deferredClear = false ∧
      ∀ x, present (inState .tripped).control.mode x = true →
        (getPhase (inState .tripped).relays.relay x).state = .opened) ∧
    ((inState .faulted).control.engine = .faulted ∧ (inState .faulted).link.fault = false) ∧
    (let s := withRelayA .opening 1 (inState .tripped)
     s.control.engine = .tripped ∧ s.control.deferredClear = false ∧ present s.control.mode .A = true ∧
       (getPhase s.relays.relay .A).state ≠ .opened) ∧
    (deferring.control.engine = .tripped ∧ deferring.control.deferredClear = true) ∧
    ((inState .running).control.engine ≠ .tripped ∧ (inState .running).control.engine ≠ .faulted) :=
  ⟨⟨rfl, rfl, rfl, fun x => by cases x <;> decide⟩, by decide, by decide, by decide, by decide⟩

theorem witness_ClearLeavesTripOrFault_ignored :
    (let s := { inState .faulted with link := { (inState .faulted).link with fault := true } }
     s.rstLow = false ∧ s.control.engine = .faulted ∧ s.link.fault = true) := by decide

theorem witness_CtrlWriteTakesActionsInOrder :
    (0x10#32).getLsbD 4 = true ∧ (0x0F#32).getLsbD 4 = false ∧
      ((inState .tripped).rstLow = false ∧ (inState .tripped).control.engine = .tripped ∧
        (inState .tripped).control.deferredClear = false ∧
        allPresent (inState .tripped).control.mode (inState .tripped).relays .opened = true) ∧
      (let s := withRelayA .opening 1 (inState .tripped)
       allPresent s.control.mode s.relays .opened = false) ∧
      State.reset.control.engine = .standby := by decide

theorem witness_FlagsAndMaskWritesSteerTheLines_flags :
    (let s := { State.reset with window := Window.drive 0x3F 0x203F }
     s.rstLow = false ∧ s.window.flags.toNat < 64 ∧ s.window.alert = true ∧ s.window.notice = true) := by decide

theorem witness_FlagsAndMaskWritesSteerTheLines_mask :
    (let s := { State.reset with window := { State.reset.window with flags := 0x3F } }
     s.rstLow = false ∧ (after (.maskWrite 0x203F) s).window.alert = true ∧
       (after (.maskWrite 0x203F) s).window.notice = true) := by decide

theorem witness_PlanbaseAndIgnoredWrites :
    State.reset.rstLow = false ∧ State.reset.control.engine = .standby ∧ (inState .running).rstLow = false ∧
      (inState .running).control.engine ≠ .standby := by decide

theorem witness_LaneStopBecomesPending :
    State.reset.rstLow = false ∧ (getLane State.reset.lanes .l5).state ≠ .halted ∧
      (getLane (withLane0 halted State.reset).lanes .l0).state = .halted := by decide

/-- Lane 0 HALTED in RUNNING, with a number of cue entries posted. -/
def haltedWith (d : Nat) : State := posted0 (BitVec.ofNat 32 d) (withLane0 halted (inState .running))

theorem witness_LaneResumeFreesAHaltedLane :
    (getLane State.reset.lanes .l0).state ≠ .halted ∧
    (getLane (withLane0 { halted with pendingStop := true } State.reset).lanes .l0).pendingStop = true ∧
    (∀ d ∈ [0, 1, 16, 17], (haltedWith d).rstLow = false ∧ (getLane (haltedWith d).lanes .l0).state = .halted ∧
      (getLane (haltedWith d).lanes .l0).pendingStop = false ∧ (haltedWith d).control.engine.cueOpen = true ∧
      (getLane (haltedWith d).port.posted .l0 - getLane (haltedWith d).port.taken .l0).toNat = d) ∧
    ((withLane0 halted State.reset).control.engine.cueOpen = false ∧
      (getLane (withLane0 halted State.reset).lanes .l0).state = .halted) := by decide

theorem witness_PlanbaseAndIgnoredWrites_ignored :
    ∀ w ∈ [(0x04, 3), (0x1F, 1), (0x00, 4), (0x08, 4), (0x1C, 4), (0x1F, 4)],
      (w.2 < 4 ∨ w.1 = 0x00 ∨ w.1 = 0x08 ∨ (0x1C ≤ w.1 ∧ w.1 < 0x20)) ∧ ignoredWrite w.1 w.2 = true := by decide

theorem witness_RegistersReadTheState :
    (inState .running).rstLow = false ∧ (inState .running).readRegister 0x08 = some 4 ∧
      (after (.laneStop .l5) (inState .running)).readRegister 0x18 = some 0x20 ∧
      (∀ offset ∈ [0x1C, 0x1F], 0x1C ≤ offset ∧ offset < 0x20) ∧ (inState .running).BooksInOrder :=
  ⟨by decide, by decide, by decide, by decide,
    ⟨by decide, by decide, by decide, by decide, by decide, by decide, by decide⟩⟩

/-- Lane 0 FETCHING with a request waiting and a number of cue entries posted. -/
def requesting (f : Fetch) (d : Word) : State :=
  posted0 d (withLane0 { fetching with request := some f } (inState .running))

/-- The same for the next slot of a WAITING lane. -/
def requestingNext (f : Fetch) (d : Word) : State :=
  posted0 d (withLane0 { holding .waiting dwell with next := .fetching, request := some f } (inState .running))

/-- A SHAPE episode of shape set 1. -/
def shaping : Episode := { dwell with kind := .shape 1 }

theorem witness_ArbiterGrantsInRankOrder_load_and_journal :
    (∃ tr, (withSlot .scan State.reset).port.slot = some tr ∧ (withSlot .scan State.reset).rstLow = false) ∧
    (let s := after .start State.reset
     s.rstLow = false ∧ s.port.slot = none ∧ s.port.loadRequest = true) ∧
    (∀ w ∈ [0, 255, 256],
      let s := queued { State.reset with port := { State.reset.port with written := BitVec.ofNat 32 w } }
      s.rstLow = false ∧ s.port.slot = none ∧ s.port.loadRequest = false ∧ s.journal.queue = [aRecord] ∧
        (s.port.written - s.port.readCount).toNat = w) :=
  ⟨⟨_, rfl, rfl⟩, by decide, by decide⟩

theorem witness_ArbiterGrantsInRankOrder_lanes :
    (∀ s ∈ [requesting .cue 0, requesting .cue 1, requesting .cue 16, requesting .cue 17, requestingNext .cue 0,
        requestingNext .cue 1, requestingNext .cue 16, requestingNext .cue 17, requesting (.episode 65535) 0,
        requesting (.shapeCount shaping) 0, requesting (.shapeComponents shaping 12) 0],
      s.rstLow = false ∧ s.port.slot = none ∧ s.port.loadRequest = false ∧ s.journal.queue = [] ∧
        (getLane s.lanes .l0).request.isSome = true) ∧
    (let s := { State.reset with lanes := setLane State.reset.lanes .l5 { fetching with request := some .cue } }
     (getLane s.lanes .l5).request = some .cue ∧
       ∀ j, laneNumber j < laneNumber .l5 → (getLane s.lanes j).request = none) ∧
    ∀ j, laneNumber j < laneNumber .l0 → (getLane (requesting .cue 1).lanes j).request = none :=
  ⟨by decide, ⟨rfl, fun j => by cases j <;> decide⟩, fun j => by cases j <;> decide⟩

theorem witness_ArbiterGrantsInRankOrder_counts :
    (let s := { State.reset with port := { State.reset.port with takenRequest := setLane (perLane false) .l5 true } }
     s.rstLow = false ∧ s.port.slot = none ∧ s.port.loadRequest = false ∧ s.journal.queue = [] ∧
       (∀ j, (getLane s.lanes j).request = none) ∧ getLane s.port.takenRequest .l5 = true ∧
       ∀ j, laneNumber j < laneNumber .l5 → getLane s.port.takenRequest j = false) ∧
    ((∀ j, (getLane State.reset.lanes j).request = none) ∧ (∀ j, getLane State.reset.port.takenRequest j = false) ∧
      State.reset.port.writtenRequest = false ∧ State.reset.port.scanRequest = false) ∧
    (let s := { State.reset with port := { State.reset.port with writtenRequest := true } }
     s.port.slot = none ∧ s.port.loadRequest = false ∧ s.port.writtenRequest = true) ∧
    (let s := { State.reset with port := { State.reset.port with scanRequest := true } }
     s.port.slot = none ∧ s.port.loadRequest = false ∧ s.port.writtenRequest = false ∧ s.port.scanRequest = true) :=
  ⟨⟨rfl, rfl, rfl, rfl, fun j => by cases j <;> rfl, rfl, fun j => by cases j <;> decide⟩,
    ⟨fun j => by cases j <;> rfl, fun j => by cases j <;> rfl, rfl, rfl⟩, by decide, by decide⟩

/-- A transaction of a kind in flight in LOADING. -/
def loading (kind : BusKind) : State := withSlot kind (inState .loading)

/-- A header of zeros. -/
def zeroHeader : Vector Word 17 := Vector.replicate 17 0

theorem witness_LoadReadsIssueTheNextTransaction :
    (∃ tr, (loading .loadHeader).port.slot = some tr ∧ tr.orphan = false ∧ tr.kind = .loadHeader ∧
      (loading .loadHeader).rstLow = false) ∧
    ∃ tr, (loading (.loadReadCount zeroHeader)).port.slot = some tr ∧ tr.orphan = false ∧
      tr.kind = .loadReadCount zeroHeader :=
  ⟨⟨_, rfl, rfl, rfl, rfl⟩, _, rfl, rfl, rfl⟩

/-- The load's last transaction in flight, with READY at a level. -/
def finishing (ready : Bool) : State :=
  { loading (.loadWriteCount zeroHeader 7) with link := { (inState .loading).link with ready := ready } }

theorem witness_LoadCompletionLatchesTheSettings :
    ∀ ready ∈ [true, false], (finishing ready).rstLow = false ∧ (finishing ready).link.ready = ready ∧
      (finishing ready).port.slot.map Transaction.kind = some (.loadWriteCount zeroHeader 7) ∧
      (finishing ready).port.slot.map Transaction.orphan = some false := by decide

/-- Seven words of a scan, each lane's count a given distance ahead. -/
def scanned (d : Nat) : Vector Word 7 := Vector.replicate 7 (BitVec.ofNat 32 d)

theorem witness_ScanCompletionReplacesTheCounts :
    (∀ s ∈ [withSlot .scan (inState .standby), withSlot .scan (inState .running),
        withSlot .scan (withLane0 (holding .active dwell) (inState .running))],
      s.rstLow = false ∧ s.port.slot.map Transaction.kind = some .scan ∧
        s.port.slot.map Transaction.orphan = some false ∧ (getLane s.lanes .l0).needsEpisode = true ∧
        s.port.taken = perLane 0) ∧
    (inState .standby).control.engine.cueOpen = false ∧ (inState .running).control.engine.cueOpen = true ∧
    (withSlot .scan (withLane0 halted (inState .running))).lanes.l0.needsEpisode = false ∧
    (∀ d ∈ [0, 1, 16, 17],
      let t := after (.scanComplete (scanned d)) (withSlot .scan (inState .running))
      (getLane t.port.posted .l0 - getLane (inState .running).port.taken .l0).toNat = d) ∧
    ∀ l ∈ [Lane.reset, holding .active dwell],
      let s := withSlot .scan (withLane0 { l with pendingStop := true } (inState .running))
      (getLane s.lanes .l0).pendingStop = true ∧ (getLane s.lanes .l0).needsEpisode = true := by decide

/-- R66 and R7: at a scan a stop pending bars the request of a cue entry, and a count of 17 refuses and halts the lane
first, which clears the stop. -/
theorem test_scan_with_a_stop_pending :
    (let scan (d : Nat) := after (.scanComplete (scanned d))
       (withSlot .scan (after (.laneStop .l0) (inState .running)))
     (getLane (scan 16).lanes .l0).state = .idle ∧ (getLane (scan 16).lanes .l0).request = none ∧
       (getLane (scan 16).lanes .l1).state = .fetching ∧ (getLane (scan 17).lanes .l0).state = .halted ∧
       (getLane (scan 17).lanes .l0).pendingStop = false ∧
       (scan 17).journal.queue.head?.map Record.body = some (.planRefused .cueCount 0)) := by decide

/-- R10: with a write-back owed after a failure the next cue fetch makes no request, and the end of a scan does. -/
theorem test_owed_write_back_waits_for_a_scan :
    (let owed : State := { inState .running with
       port := { (inState .running).port with takenOwed := setLane (perLane false) .l0 true } }
     let fetched := after (.cueFetchComplete 9) (withSlot (.laneFetch .l0 .cue true) (withLane0 fetching owed))
     fetched.port.taken.l0 = 1 ∧ fetched.port.takenRequest.l0 = false ∧
       (after (.scanComplete (scanned 0)) (withSlot .scan owed)).port.takenRequest.l0 = true) := by decide

/-- A lane fetch in flight for lane 0 in a lane state, the plan with the given number of episodes. -/
def fetchingFor (f : Fetch) (wanted : Bool) (l : Lane) (episodes : Nat) : State :=
  let s := withSlot (.laneFetch .l0 f wanted) (withLane0 l (inState .running))
  { s with port := { s.port with episodeCount := episodes, shapeCount := 2 } }

/-- A WAITING lane whose next slot is FETCHING. -/
def waitingNext : Lane := { holding .waiting dwell with next := .fetching }

/-- The slot of `fetchingFor`. -/
theorem fetchingFor_slot (f : Fetch) (wanted : Bool) (l : Lane) (n : Nat) :
    ∃ tr, (fetchingFor f wanted l n).port.slot = some tr ∧ tr.orphan = false ∧
      tr.kind = .laneFetch .l0 f wanted ∧ (fetchingFor f wanted l n).rstLow = false := ⟨_, rfl, rfl, rfl, rfl⟩

theorem witness_CueFetchChecksTheIndex :
    (∀ l ∈ [fetching, waitingNext], ∃ tr, (fetchingFor .cue true l 4096).port.slot = some tr ∧ tr.orphan = false ∧
      tr.kind = .laneFetch .l0 .cue true ∧ (getLane (fetchingFor .cue true l 4096).lanes .l0) = l) ∧
    (∃ tr, (fetchingFor .cue false halted 4096).port.slot = some tr ∧ tr.orphan = false ∧
      tr.kind = .laneFetch .l0 .cue false) ∧
    ((4095#32).toNat % 65536 < 4096 ∧ 4096 ≤ (4096#32).toNat % 65536 ∧ 4096 ≤ (0xFFFFFFFF#32).toNat % 65536) ∧
    (fetching.state = .fetching ∧ waitingNext.state ≠ .fetching ∧ waitingNext.state ≠ .idle) :=
  ⟨fun _ _ => ⟨_, rfl, rfl, rfl, rfl⟩, ⟨_, rfl, rfl, rfl⟩, by decide, by decide⟩

/-- A record of a kind code, an options byte and a phase mask in its first bytes, a trigger type and argument, and a
value 2. -/
def record (code options mask trigger arg value2 next : Nat) : Vector Word 9 :=
  #v[BitVec.ofNat 32 (code + 256 * options + 65536 * mask + 16777216 * trigger), BitVec.ofNat 32 arg, 0,
    BitVec.ofNat 32 value2, 0, 0, 0, BitVec.ofNat 32 next, 0]

theorem witness_EpisodeFetchLoadsOrRefuses :
    (∀ wanted ∈ [true, false], ∀ l ∈ [fetching, waitingNext],
      ∃ tr, (fetchingFor (.episode 65535) wanted l 4096).port.slot = some tr ∧ tr.orphan = false ∧
        tr.kind = .laneFetch .l0 (.episode 65535) wanted) ∧
    (∃ cause offending, validateRecord 0 4096 2 65535 (record 0 0 0 0 0 0 0).toList = .error (cause, offending)) ∧
    (∃ ep, validateRecord 0 4096 2 65535 (record 7 1 0 0 0 0 4095).toList = .ok ep ∧ ep.kind = .dwell ∧
      ep.next = some 4095) ∧
    (∃ ep, validateRecord 0 4096 2 65535 (record 7 0 0 0 0 0 0).toList = .ok ep ∧ ep.kind = .dwell ∧ ep.next = none ∧
      ∀ d ∈ [0, 1, 16, 17], (posted0 (BitVec.ofNat 32 d) (fetchingFor (.episode 65535) true fetching 4096)).cueAhead
        .l0 = d) ∧
    ∃ ep, validateRecord 0 4096 2 65535 (record 3 0 1 0 0 1 0).toList = .ok ep ∧ ep.kind = .shape 1 :=
  ⟨fun _ _ _ _ => ⟨_, rfl, rfl, rfl⟩, ⟨_, _, rfl⟩, ⟨_, rfl, rfl, rfl⟩,
    ⟨_, rfl, rfl, rfl, by decide⟩, ⟨_, rfl, rfl⟩⟩

/-- The tests of a record as RecordTestsStandInOrder states them, in mode 0, with 10 episodes and 2 shape sets. -/
def recordTests (v : Vector Word 9) : List Bool :=
  let ws := v.toList
  let code := u8 ws 0
  [decide (1 ≤ code ∧ code ≤ 8),
   decide (code = 5 ∨ code = 7 ∨ code = 8) || allPhases.any fun x => (byteAt ws 2).getLsbD (phaseBit x) && present 0 x,
   decide (u8 ws 3 = 0 ∨ u8 ws 3 = 1 ∨ (u8 ws 3 = 2 ∧ u32 ws 4 < 3600) ∨ (u8 ws 3 = 3 ∧ u32 ws 4 ≤ 3) ∨
     (u8 ws 3 = 4 ∧ u32 ws 4 ≤ 5) ∨ u8 ws 3 = 5),
   decide ((byteAt ws 1).getLsbD 0 = true → u16 ws 28 < 10),
   decide (code = 3 → u32 ws 12 < 2)]

/-- Each test fails with the ones before it passed, and all pass, at the boundaries of their ranges. -/
theorem witness_RecordTestsStandInOrder :
    [record 0 0 1 0 0 0 0, record 9 0 1 0 0 0 0].map (fun v => (recordTests v).take 1) = [[false], [false]] ∧
    [record 1 0 0 0 0 0 0, record 6 0 6 0 0 0 0].map (fun v => (recordTests v).take 2) =
      [[true, false], [true, false]] ∧
    [record 1 0 1 2 3600 0 0, record 8 0 0 3 4 0 0, record 8 0 0 4 6 0 0, record 7 0 0 6 0 0 0].map
        (fun v => (recordTests v).take 3) = List.replicate 4 [true, true, false] ∧
    (recordTests (record 7 1 0 0 0 0 10)).take 4 = [true, true, true, false] ∧
    [record 3 0 1 0 0 2 0, record 3 0 1 0 0 65535 0].map recordTests =
      List.replicate 2 [true, true, true, true, false] ∧
    [record 1 0 1 2 3599 0 0, record 8 1 0 3 3 0 9, record 3 1 1 4 5 1 9, record 7 0 0 5 4294967295 0 65535].map
      recordTests = List.replicate 4 [true, true, true, true, true] := by decide

/-- R41: the values of each kind beyond their ranges, brought into range and marked. -/
theorem test_values_are_brought_into_range :
    (let load (code value1 value2 : Nat) := match validateRecord 0 10 2 0
         [BitVec.ofNat 32 (code + 65536), 0, BitVec.ofNat 32 value1, BitVec.ofNat 32 value2, 0, 0, 0, 0, 0] with
       | .ok ep => some (ep.kind, ep.clamped)
       | .error _ => none
     load 1 20000 0 = some (.level 20000, false) ∧ load 1 20001 0 = some (.level 20000, true) ∧
       load 1 0xFFFFFFFF 0 = some (.level 0, true) ∧ load 4 2001 0 = some (.flicker 2000 1 1536000, true) ∧
       load 5 44999 7 = some (.freq 45000 7, true) ∧ load 6 900 0 = some (.jump 900 0x40000000, false) ∧
       load 8 0x12345 0 = some (.mark 0x2345, false)) := by decide

theorem witness_RampsAreCutToFit :
    (∃ target, Kind.level 20000 = .level target) ∧ ∀ target, Kind.dwell ≠ .level target :=
  ⟨⟨_, rfl⟩, by intro _ h; cases h⟩

/-- The words of a component read whose first order is given. -/
def componentsOf (order : Nat) : Vector Word 18 := (Vector.replicate 18 0x00020000).set 0 (BitVec.ofNat 32 order)

theorem witness_ShapeReadsLoadOrRefuse :
    (∀ f ∈ [Fetch.shapeCount shaping, .shapeComponents shaping 1], ∀ wanted ∈ [true, false],
      ∀ l ∈ [fetching, waitingNext], ∃ tr, (fetchingFor f wanted l 9).port.slot = some tr ∧
        tr.orphan = false ∧ tr.kind = .laneFetch .l0 f wanted ∧ (getLane (fetchingFor f wanted l 9).lanes .l0) = l) ∧
    shaping.kind = .shape 1 ∧ shaping.index < 65536 ∧
    (∀ order ∈ [2, 40], ∀ m, m < 1 →
      2 ≤ u16 (componentsOf order).toList (6 * m) ∧ u16 (componentsOf order).toList (6 * m) ≤ 40) ∧
    (∀ order ∈ [1, 41], u16 (componentsOf order).toList 0 < 2 ∨ 40 < u16 (componentsOf order).toList 0) :=
  ⟨fun _ _ _ _ _ _ => ⟨_, rfl, rfl, rfl, rfl⟩, rfl, by decide, by decide, by decide⟩

/-- Every count that ShapeReadsLoadOrRefuse separates is a byte of some word. -/
theorem witness_ShapeReadsLoadOrRefuse_counts :
    [0#32, 1, 12, 13, 255].map (fun w => w.toNat % 256) = [0, 1, 12, 13, 255] := by decide

theorem witness_CompletedWritesSettleTheCounts :
    (∀ kind ∈ [BusKind.takenCount .l0 0, .takenCount .l0 1, .journalRecord 0, .journalCount, .writtenCount],
      ∃ tr, (withSlot kind (queued (inState .running))).port.slot = some tr ∧ tr.orphan = false ∧ tr.kind = kind ∧
        (withSlot kind (queued (inState .running))).rstLow = false) ∧
    getLane (inState .running).port.taken .l0 = 0 ∧ getLane (inState .running).port.taken .l0 ≠ 1 :=
  ⟨fun _ _ => ⟨_, rfl, rfl, rfl, rfl⟩, rfl, by decide⟩

theorem witness_BusErrorEndsTheTransaction :
    (inState .running).port.slot = none ∧
    (∀ kind ∈ [BusKind.loadHeader, .loadReadCount zeroHeader, .loadWriteCount zeroHeader 0],
      ∃ tr, (loading kind).port.slot = some tr ∧ tr.orphan = false ∧ tr.kind = kind ∧ (loading kind).rstLow = false) ∧
    (∀ kind ∈ [BusKind.scan, .journalRecord 0, .journalCount, .writtenCount, .takenCount .l0 0],
      ∃ tr, (withSlot kind (queued (inState .running))).port.slot = some tr ∧ tr.orphan = false ∧ tr.kind = kind) ∧
    (∀ f ∈ [Fetch.cue, .episode 65535, .shapeCount shaping, .shapeComponents shaping 12], ∀ wanted ∈ [true, false],
      ∀ l ∈ [fetching, waitingNext], ∃ tr, (fetchingFor f wanted l 9).port.slot = some tr ∧ tr.orphan = false ∧
        tr.kind = .laneFetch .l0 f wanted) ∧
    shaping.kind = .shape 1 ∧ shaping.index = 3 ∧ waitingNext.state = .waiting :=
  ⟨rfl, fun _ _ => ⟨_, rfl, rfl, rfl, rfl⟩, fun _ _ => ⟨_, rfl, rfl, rfl⟩,
    fun _ _ _ _ _ _ => ⟨_, rfl, rfl, rfl⟩, rfl, rfl, rfl⟩

theorem witness_DisownedTransactionsOnlyEnd :
    ∀ kind ∈ [BusKind.loadHeader, .loadReadCount zeroHeader, .loadWriteCount zeroHeader 0, .scan,
        .laneFetch .l0 .cue true, .laneFetch .l0 (.episode 0) true, .laneFetch .l0 (.shapeCount shaping) true,
        .laneFetch .l0 (.shapeComponents shaping 12) true, .takenCount .l0 0, .journalRecord 0, .journalCount,
        .writtenCount],
      ∃ tr, (disowned (withSlot kind State.reset)).port.slot = some tr ∧ tr.orphan = true ∧ tr.kind = kind ∧
        (disowned (withSlot kind State.reset)).rstLow = false :=
  fun _ _ => ⟨_, rfl, rfl, rfl, rfl⟩

theorem witness_BusWaitExpiryEndsTheTransaction :
    (∀ kind ∈ [BusKind.loadHeader, .loadReadCount zeroHeader, .loadWriteCount zeroHeader 0],
      ∃ tr, (waiting63 (loading kind)).port.slot = some tr ∧ tr.timer = 63 ∧ tr.kind = kind ∧ tr.orphan = false ∧
        (waiting63 (loading kind)).rstLow = false ∧ (waiting63 (loading kind)).control.engine = .loading ∧
        (waiting63 (loading kind)).control.progress = .none) ∧
    (∀ kind ∈ [BusKind.journalRecord 0, .journalCount, .writtenCount, .takenCount .l0 0, .scan],
      ∃ tr, (waiting63 (withSlot kind (queued (inState .running)))).port.slot = some tr ∧ tr.timer = 63 ∧
        tr.kind = kind ∧ tr.orphan = false ∧
        (waiting63 (withSlot kind (queued (inState .running)))).journal = { queue := [aRecord], drops := 0 }) ∧
    (∃ tr, (waiting63 (fetchingFor .cue true fetching 9)).port.slot = some tr ∧ tr.timer = 63 ∧
      tr.kind = .laneFetch .l0 .cue true ∧ tr.orphan = false ∧ quiet.expiryFirst = true ∧
      (getLane (waiting63 (fetchingFor .cue true fetching 9)).lanes .l0).state = .fetching ∧
      (waiting63 (fetchingFor .cue true fetching 9)).releaseDue = false) ∧
    ∃ tr, (waiting63 (disowned (withSlot .scan (inState .running)))).port.slot = some tr ∧ tr.timer = 63 ∧
      tr.orphan = true :=
  ⟨fun _ _ => ⟨_, rfl, rfl, rfl, rfl, rfl, rfl, rfl⟩, fun _ _ => ⟨_, rfl, rfl, rfl, rfl, rfl⟩,
    ⟨_, rfl, rfl, rfl, rfl, rfl, rfl, rfl⟩, ⟨_, rfl, rfl, rfl⟩⟩

theorem witness_MeasurementFrameIsHeldWhenGood :
    State.reset.rstLow = false ∧
    (minus200.ended = true ∧ minus200.acrossSoftReset = false ∧ minus200.bytes.length = 13 ∧
      (minus200.bytes.map BitVec.toNat).sum % 256 = 0) ∧
    (∀ f ∈ [{ minus200 with ended := false }, { minus200 with acrossSoftReset := true },
        { minus200 with bytes := minus200.bytes.take 12 }, { minus200 with bytes := 0 :: minus200.bytes },
        { minus200 with bytes := 1 :: minus200.bytes.drop 1 }],
      ¬(f.ended = true ∧ f.acrossSoftReset = false ∧ f.bytes.length = 13 ∧
        (f.bytes.map BitVec.toNat).sum % 256 = 0)) := by decide

theorem witness_SampleEventAdvancesEveryBlock :
    (∀ s ∈ [atAngle .running 0xFF7FFFFF, withSlot .scan (atAngle .running 0xFF7FFFFF)],
      s.rstLow = false ∧ s.timebase.restartDue = .none ∧
        s.timebase.theta.toNat + s.timebase.increment < 4294967296 ∧ s.noExpiry = true) ∧
    (inState .running).port.slot = none ∧ (inState .running).control.previousFault = false ∧
    (let s := fetchingFor .cue true { fetching with pendingStop := true } 9
     1 ≤ s.measure.tripCount ∧ s.discardsDue quiet .l0 = true ∧ s.discardsDue quiet .l1 = false ∧
       (s.slotDue quiet).map Transaction.kind = some (.laneFetch .l0 .cue false)) := by decide

/-- In an engine state, the link shifting three words, the buffer of the sample before holding the extreme codes. -/
def sending (e : EngineState) : State :=
  { inState e with
    link := { (inState e).link with shifting := some (perPhase 5), buffer1 := ⟨-524288, 524287, 0⟩ } }

theorem witness_DriveLinkSendsTheFrameBefore :
    ∀ e ∈ [EngineState.running, .tripped, .faulted], (sending e).rstLow = false ∧ (sending e).noExpiry = true ∧
      (sending e).link.shifting = some (perPhase 5) ∧ (sending e).link.writesBuffer1 = false ∧
      present (sending e).control.mode .B = false ∧
      (after (.sampleEvent quiet) (sending e)).control.engine = e := by decide

theorem witness_CycleStartBeginsACycle :
    (∀ e ∈ [EngineState.softstart, .running, .releasing, .standby],
      (atAngle e 0xFF800000).rstLow = false ∧ (atAngle e 0xFF800000).cycleStartDue = true ∧
        (atAngle e 0xFF800000).noExpiry = true ∧ (atAngle e 0xFF800000).openedState = e ∧
        (atAngle e 0xFF800000).port.slot = none) ∧
    (let t := after (.cycleStart quiet) (atAngle .running 0xFF800000)
     t.composer.freqOwner t.lanes = none) ∧
    (let t := after (.cycleStart quiet) (withLane0 (holding .active { dwell with kind := .freq 50100 10 })
        { atAngle .running 0xFF800000 with
          composer := { Composer.reset with claims := { Claims.none with freq := setLane (perLane false) .l0 true } } })
     t.composer.freqOwner t.lanes = some (50100, 10)) := by decide

theorem witness_RestartBeginsCycleZero :
    (∀ m : BitVec 2, ∀ due ∈ [RestartDue.afterReset, .afterLoad],
      let s := { State.powerOn m [] with timebase := { Timebase.reset m with restartDue := due } }
      s.rstLow = false ∧ s.timebase.restartDue ≠ .none ∧ s.noExpiry = true ∧ s.control.mode = m) := by decide

/-- The FAULT line asserted, taken first. -/
def faulty : SampleInputs := { quiet with fault := true, order := .faultTripLoss }

/-- The measurement lost at the next sample event. -/
def stale : State := { inState .running with measure := { (inState .running).measure with liveStale := 255 } }

/-- A trip at the next sample event, lane 0 in an application. -/
def tripping : State :=
  withLane0 (holding .active dwell) { inState .running with measure := Measure.reset }

theorem witness_EngineStateOfASample :
    ((inState .running).rstLow = false ∧ (inState .running).noExpiry = true ∧ 1 ≤ (inState .running).measure.tripCount ∧
      (inState .running).unprotected quiet = true) ∧
    (stale.rstLow = false ∧ stale.noExpiry = true ∧ 1 ≤ stale.measure.tripCount ∧
      stale.protectionDue quiet = some .measLost) ∧
    (tripping.rstLow = false ∧ tripping.noExpiry = true ∧ 1 ≤ tripping.measure.tripCount ∧
      tripping.protectionDue quiet = some .trip ∧ tripping.protectionDue faulty = some .fault) := by decide

/-- A progress due in an engine state. -/
def due (p : Progress) (e : EngineState) : State := withProgress p (inState e)

theorem witness_ProgressIsEnteredAtTheOpening :
    (∀ s ∈ [due .softstart .closing, due .running .softstart, due .standby .releasing, due .standby .tripped],
      s.rstLow = false ∧ s.noExpiry = true ∧ 1 ≤ s.measure.tripCount ∧ s.control.pendingRelease = false ∧
        s.unprotected quiet = true) ∧
    (due .softstart .closing).control.progress = .softstart ∧ (due .running .softstart).control.progress = .running ∧
    ((due .standby .releasing).control.progress = .standby ∧ (due .standby .releasing).control.engine = .releasing) ∧
    ((due .standby .tripped).control.progress = .standby ∧ (due .standby .tripped).control.engine = .tripped) := by
  decide

/-- A RELEASE due with lane 0 in an application, lane 1 HALTED and a stop pending on lane 2. -/
def releasingLanes (e : EngineState) : State :=
  let s := releasing (withLane0 (holding .active dwell) (inState e))
  { s with lanes := { s.lanes with l1 := halted, l2 := { Lane.reset with pendingStop := true } } }

theorem witness_ReleaseIsActedOn :
    ∀ e ∈ [EngineState.closing, .softstart, .running],
      (releasingLanes e).rstLow = false ∧ (releasingLanes e).noExpiry = true ∧
        1 ≤ (releasingLanes e).measure.tripCount ∧ (releasingLanes e).releaseDue = true ∧
        (releasingLanes e).unprotected quiet = true ∧ (releasingLanes e).enteredState = e ∧
        (getLane (releasingLanes e).lanes .l0).state = .active ∧
        (getLane (releasingLanes e).lanes .l0).current = some dwell ∧
        (getLane (releasingLanes e).lanes .l1).state = .halted ∧
        (getLane (releasingLanes e).lanes .l2).pendingStop = true ∧
        (getLane (watched 1 5 (releasingLanes e)).watches .l0).armed = true := by decide

/-- R145, R146: the RELEASE ends the watch with no cycle counted. -/
theorem test_release_abandons_the_watch :
    (let t := after (.releaseActedOn quiet) (watched 1 5 (releasing (inState .running)))
     t.journal.queue.getLast?.map Record.body) =
      some (.watchResult .abandoned 0 0xFFFF 0) := by decide

theorem witness_ProtectionStopsTheRun :
    (tripping.rstLow = false ∧ tripping.noExpiry = true ∧ 1 ≤ tripping.measure.tripCount ∧
      tripping.protectionDue quiet = some .trip ∧ tripping.protectionDue faulty = some .fault ∧
      (getLane tripping.lanes .l0).state = .active ∧ (getLane tripping.lanes .l0).current = some dwell ∧
      present tripping.control.mode .A = true) ∧
    (stale.rstLow = false ∧ stale.noExpiry = true ∧ stale.protectionDue quiet = some .measLost) ∧
    (let s := watched 2 2 { atAngle .running 0xFF800000 with measure := Measure.reset }
     let w := getLane s.watches .l0
     s.rstLow = false ∧ s.noExpiry = true ∧ 1 ≤ s.measure.tripCount ∧ s.protectionDue quiet = some .trip ∧
       w.armed = true ∧ s.cycleStartDue = true ∧ s.releaseDue = false ∧ getLane quiet.watchFirst .l0 = false ∧
       getLane { quiet with watchFirst := perLane true }.watchFirst .l0 = true ∧
       w.inBand + 1 < w.part.hold ∧ w.cycles + 1 < w.part.limit) := by decide

/-- A stop pending on lane 0. -/
def stopping (l : Lane) : State := withLane0 { l with pendingStop := true } (inState .running)

theorem witness_PendingStopIsCarriedOut :
    ∀ s ∈ [stopping Lane.reset, stopping (holding .active dwell), stopping waitingNext,
        releasing (stopping (holding .active dwell))],
      s.rstLow = false ∧ s.noExpiry = true ∧ 1 ≤ s.measure.tripCount ∧ s.unprotected quiet = true ∧
        (getLane s.lanes .l0).pendingStop = true ∧ (getLane s.lanes .l0).state ≠ .halted := by decide

/-- Lane 1 as given. -/
def withLane1 (l : Lane) (s : State) : State := { s with lanes := setLane s.lanes .l1 l }

/-- A lane WAITING on a CASCADE of lane k for its first application, with a duration. -/
def listener (k : LaneId) (duration : Nat) : Lane :=
  { holding .waiting { dwell with trigger := .cascade k, duration := duration } with application := 0 }

theorem witness_PendingStopIsCarriedOut_listener :
    (let s := withLane1 (listener .l0 3600) (stopping (holding .active dwell))
     State.laneRuns quiet s .l1 = true ∧ (getLane s.lanes .l1).state = .waiting ∧
       (getLane s.lanes .l1).current = some { dwell with trigger := .cascade .l0 }) := by decide

/-- Lane 0 WAITING on a trigger in RUNNING at an angle, with TRIG at a level before. -/
def waitingOn (trigger : Trigger) (theta : Word) (trig : Option Bool) : State :=
  { withLane0 (holding .waiting { dwell with trigger := trigger }) (atAngle .running theta) with previousTrig := trig }

/-- TRIG high. -/
def high : SampleInputs := { quiet with trig := true }

/-- Every trigger but CASCADE with its condition met, and with it not met: `met` is whether the lane then fires. -/
theorem witness_TriggersFireInRunning :
    (∀ r ∈ [(waitingOn .immediate 0 none, quiet, true),
        (waitingOn .cycle 0xFF800000 none, quiet, true), (waitingOn .cycle 0xFF7FFFFF none, quiet, false),
        (waitingOn (.angle 0) 0xFF800000 none, quiet, true), (waitingOn (.angle 0) 0 none, quiet, false),
        (waitingOn (.angle 1) 0 none, quiet, true), (waitingOn (.angle 3599) 0 none, quiet, false),
        (waitingOn (.ext 0) 0 (some false), high, true), (waitingOn (.ext 0) 0 none, high, false),
        (waitingOn (.ext 1) 0 (some true), quiet, true), (waitingOn (.ext 1) 0 none, quiet, false),
        (waitingOn (.ext 2) 0 none, high, true), (waitingOn (.ext 2) 0 none, quiet, false),
        (waitingOn (.ext 3) 0 none, quiet, true), (waitingOn (.ext 3) 0 none, high, false),
        (waitingOn (.current 0) 0xFF800000 none, quiet, true),
        (waitingOn (.current 1) 0xFF800000 none, quiet, false)],
      r.1.noExpiry = true ∧ 1 ≤ r.1.measure.tripCount ∧ State.laneRuns r.2.1 r.1 .l0 = true ∧
        (getLane r.1.lanes .l0).state = .waiting ∧ (getLane r.1.lanes .l0).current.isSome = true ∧
        r.1.openedState = .running ∧
        decide ((getLane (after (.sampleEvent r.2.1) r.1).lanes .l0).state = .active) = r.2.2) := by decide

theorem witness_TriggersFireInRunning_waiting :
    (let s := withLane0 (holding .waiting dwell) (inState .softstart)
     s.noExpiry = true ∧ 1 ≤ s.measure.tripCount ∧ State.laneRuns quiet s .l0 = true ∧ s.openedState ≠ .running) ∧
    (∀ j, dwell.trigger = .cascade j → j = .l0) ∧
    (let ep := { dwell with duration := 0, markOut := true, kind := .mark 7, repeatCount := 2 }
     ∀ l ∈ [holding .waiting ep, { holding .waiting ep with application := 0, late := true }],
       let s := withLane0 l (inState .running)
       State.laneRuns quiet s .l0 = true ∧ (getLane s.lanes .l0).state = .waiting ∧ s.openedState = .running ∧
         s.lateDue .l0 = l.late) ∧
    (let s := withLane0 (listener .l0 7) (inState .running)
     State.laneRuns quiet s .l0 = true ∧ (getLane s.lanes .l0).state = .waiting ∧
       (getLane (after (.sampleEvent quiet) s).lanes .l0).state = .waiting) :=
  ⟨by decide, (by intro _ h; cases h), by decide, by decide⟩

/-- Lane 0 in an application of a duration that ends at the next sample event, or in a gap, with a next slot. -/
def ending (st : LaneState) (ep : Episode) (application : Nat) (next : NextSlot) : State :=
  withLane0 { holding st { ep with duration := 7 } with application := application, next := next } (inState .running)

/-- An episode with a watch part. -/
def watchful : Episode := { dwell with duration := 7, watch := some { band := 10, hold := 2, limit := 9 } }

theorem witness_ApplicationsAndGapsEnd :
    (∀ s ∈ [ending .active { dwell with repeatCount := 0 } 1 .empty, ending .active { dwell with repeatCount := 2 } 1 .empty,
        ending .active { dwell with repeatCount := 2, repeatGap := 1 } 1 .empty, ending .active dwell 1 .empty,
        ending .active dwell 1 (.loaded dwell), ending .active dwell 1 .fetching,
        ending .active dwell 1 (.refused .cueCount 0xFFFF), ending .active watchful 1 .empty,
        ending .active dwell 1 (.loaded { dwell with next := some 4095 }),
        posted0 1 (ending .active dwell 1 .empty), posted0 16 (ending .active dwell 1 .empty),
        posted0 17 (ending .active dwell 1 .empty), posted0 17 (ending .active dwell 1 (.loaded dwell))],
      s.noExpiry = true ∧ 1 ≤ s.measure.tripCount ∧ State.laneRuns quiet s .l0 = true ∧
        (getLane s.lanes .l0).state = .active ∧ (getLane s.lanes .l0).current.map Episode.duration = some 7 ∧
        7 ≤ s.advanceDue .l0 ∧ s.cycleStartDue = false ∧ s.openedState.cueOpen = true ∧
        (getLane s.watches .l0).armed = false) ∧
    (∀ gap ∈ [7, 8],
      let s := ending .gap { dwell with repeatGap := gap } 1 .empty
      s.noExpiry = true ∧ State.laneRuns quiet s .l0 = true ∧ (getLane s.lanes .l0).state = .gap ∧
        s.advanceDue .l0 = 7) := by decide

/-- The watch's two ways at the last END: the reference below the floor, and at it. -/
theorem witness_ApplicationsAndGapsEnd_watch :
    ∀ floor ∈ [0, 1],
      let s := ending .active watchful 1 .empty
      let s := { s with measure := { s.measure with currentFloor := floor } }
      s.noExpiry = true ∧ State.laneRuns quiet s .l0 = true ∧ (getLane s.lanes .l0).current = some watchful ∧
        (getLane s.lanes .l0).iref = 0 := by decide

/-- An ARMED watch at the last END, at an angle: the next sample event is a cycle start from 0xFF800000 on. -/
def superseding (theta : Word) : State :=
  watched 3 3 (withLane0 { holding .active watchful with application := 1 } (atAngle .running theta))

theorem witness_ApplicationsAndGapsEnd_superseded :
    (∀ s ∈ [superseding 0, superseding 0xFF800000],
      s.noExpiry = true ∧ 1 ≤ s.measure.tripCount ∧ State.laneRuns quiet s .l0 = true ∧ 7 ≤ s.advanceDue .l0 ∧
        (getLane s.watches .l0).armed = true ∧ (getLane s.watches .l0).inBand + 1 < 3 ∧
        (getLane s.watches .l0).cycles + 1 < 3) ∧
    (getLane (superseding 0).watches .l0).part = { band := 10, hold := 3, limit := 3 } ∧
    (superseding 0).cycleStartDue = false ∧ (superseding 0xFF800000).cycleStartDue = true := by decide

/-- An application that runs on, at a cycle start with no RMS voltage taken yet and with one, and at another sample
event. -/
theorem witness_ApplicationsAndGapsEnd_runs_on :
    ∀ r ∈ [(0xFFFF, 0xFF800000#32, true), (7, 0xFF800000, true), (7, 0, false)],
      let s := withLane0 { holding .active { dwell with duration := 8 } with rmsMin := r.1, rmsMax := r.1 }
        (atAngle .running r.2.1)
      s.noExpiry = true ∧ 1 ≤ s.measure.tripCount ∧ State.laneRuns quiet s .l0 = true ∧ s.advanceDue .l0 = 7 ∧
        s.cycleStartDue = r.2.2 := by decide

/-- Lane 0 ends an application; lane 1 waits on its END with a duration, and lane 2 on lane 1's. -/
def chain (repeats duration : Nat) : State :=
  let s := withLane1 (listener .l0 duration) (ending .active { dwell with repeatCount := repeats } 1 .empty)
  { s with lanes := setLane s.lanes .l2 (listener .l1 3600) }

/-- R54: the last END fires lane 1, and through its END at duration 0 lane 2; an END that is not the last fires none.
R132, R133: an OPEN application ends with its relay two samples from OPEN, one sample after the opening began. R143: the
END supersedes an ARMED watch, with no cycle counted and at a cycle start with one. -/
theorem test_application_end_cascades_span_and_watch :
    [chain 1 3600, chain 1 0, chain 2 3600].map (fun s =>
        let t := after (.applicationEnd .l0 quiet) s
        ((getLane t.lanes .l1).state, (getLane t.lanes .l2).state)) =
      [(.active, .waiting), (.idle, .active), (.waiting, .waiting)] ∧
    (after (.applicationEnd .l0 quiet) (withRelayA .opening 3
      (ending .active { dwell with kind := .openCircuit } 1 .empty))).journal.queue.map Record.body =
      [.episodeEnd false true 0 0 0 3 1] ∧
    (after (.applicationEnd .l0 quiet) (superseding 0)).journal.queue.getLast?.map Record.body =
      some (.watchResult .superseded 0 0xFFFF 0) ∧
    ((after (.applicationEnd .l0 quiet) (superseding 0xFF800000)).journal.queue.getLast?.map fun r =>
      [0, 3, 12].map fun n => r.bytes.getD n 0) = some [3, 4, 1] := by decide

theorem witness_ApplicationsAndGapsEnd_cascade :
    (∀ r ∈ [(1, 3600), (1, 0), (2, 3600), (0, 3600)],
      let s := chain r.1 r.2
      s.noExpiry = true ∧ s.openedState = .running ∧ (getLane s.lanes .l0).state = .active ∧
        7 ≤ s.advanceDue .l0 ∧ State.laneRuns quiet s .l0 = true ∧ State.laneRuns quiet s .l1 = true ∧
        State.laneRuns quiet s .l2 = true ∧ (getLane s.lanes .l0).application = 1 ∧
        (getLane s.lanes .l1).state = .waiting ∧
        (getLane s.lanes .l1).current = some { dwell with trigger := .cascade .l0, duration := r.2 } ∧
        (getLane s.lanes .l1).application + 1 = dwell.repeatCount ∧
        (getLane s.lanes .l2).current = some { dwell with trigger := .cascade .l1 }) := by decide

/-- Lane 0 in a LEVEL application at 4000 that has reached a phase advance of 1434, the steady level at 10 000. -/
def levelling (st : LaneState) (entry exit duration : Nat) : State :=
  let ep := { dwell with kind := .level 4000, duration := duration, entry := entry, exit := exit }
  let s := withLane0 { holding st ep with
    advance := 1711276032, stage := some .hold, start := ⟨9000, 0, 0⟩, envelope := ⟨4000, 0, 0⟩ } (inState .running)
  { s with composer := { s.composer with steady := ⟨10000, 0, 0⟩, lastComposed := ⟨9000, 0, 0⟩ } }

theorem witness_LevelWorkingValuesFollowTheRamps :
    (∀ s ∈ [levelling .active 1442 0 1800, levelling .active 1441 0 1800, levelling .active 0 360 1800,
        levelling .active 0 359 1800, levelling .waiting 1 0 1800, levelling .waiting 0 1799 1800,
        levelling .waiting 0 1800 1800],
      s.noExpiry = true ∧ 1 ≤ s.measure.tripCount ∧ State.laneRuns quiet s .l0 = true ∧ s.advanceDue .l0 = 1441 ∧
        (getLane s.lanes .l0).current.map Episode.kind = some (.level 4000)) ∧
    ∀ s ∈ [levelling .waiting 1 0 1800, levelling .waiting 0 1799 1800, levelling .waiting 0 1800 1800],
      (getLane (after (.sampleEvent quiet) s).lanes .l0).state = .active := by decide

/-- Lane 0 in a FLICKER application with a countdown and a factor. -/
def flickering (countdown factor : Nat) : State :=
  withLane0 { holding .active { dwell with kind := .flicker 100 60 25600 } with countdown := countdown, factor := factor }
    (inState .running)

theorem witness_FlickerFactorAlternates :
    ∀ r ∈ [(1, 10100), (1, 9900), (2, 10100)],
      (flickering r.1 r.2).noExpiry = true ∧ 1 ≤ (flickering r.1 r.2).measure.tripCount ∧
        State.laneRuns quiet (flickering r.1 r.2) .l0 = true ∧
        (getLane (flickering r.1 r.2).lanes .l0).state = .active ∧
        (getLane (flickering r.1 r.2).lanes .l0).current = some { dwell with kind := .flicker 100 60 25600 } ∧
        (flickering r.1 r.2).advanceDue .l0 < 3600 ∧ (getLane (flickering r.1 r.2).lanes .l0).countdown = r.1 := by
  decide

theorem witness_FlickerFactorAlternates_trigger :
    (let s := withLane0 (holding .waiting { dwell with kind := .flicker 100 60 25600 }) (inState .running)
     s.noExpiry = true ∧ 1 ≤ s.measure.tripCount ∧ State.laneRuns quiet s .l0 = true ∧
       (getLane s.lanes .l0).state = .waiting ∧
       (getLane (after (.sampleEvent quiet) s).lanes .l0).state = .active) := by decide

/-- A watch with a hold and a limit at a cycle start: it holds (1, 1), it runs out (2, 1), it goes on (2, 2). -/
theorem witness_WatchesEndAtCycleStarts :
    (∀ r ∈ [(1, 1), (1, 5), (2, 1), (2, 2)],
      let s := watched r.1 r.2 (atAngle .running 0xFF800000)
      s.rstLow = false ∧ s.noExpiry = true ∧ 1 ≤ s.measure.tripCount ∧ (getLane s.watches .l0).armed = true ∧
        s.cycleStartDue = true ∧ s.releaseDue = false ∧ s.unprotected quiet = true ∧
        (getLane s.lanes .l0).state = .idle ∧ (getLane s.watches .l0).cycles = 0) ∧
    (let s := watched 1 1 { atAngle .running 0xFF800000 with measure := Measure.reset }
     s.rstLow = false ∧ s.noExpiry = true ∧ 1 ≤ s.measure.tripCount ∧ s.cycleStartDue = true ∧
       s.releaseDue = false ∧ s.unprotected quiet = false ∧
       getLane { quiet with watchFirst := perLane true }.watchFirst .l0 = true) := by decide

/-- In SOFTSTART with a length. -/
def soft (length : Nat) : State :=
  { inState .softstart with composer := { (inState .softstart).composer with softLength := length } }

/-- In RELEASING with the ramp running and a length. -/
def ramping (length : Nat) : State :=
  { inState .releasing with
    composer := { (inState .releasing).composer with releaseLength := length, rampRunning := true } }

/-- One sample event of a 50 Hz angle advances 7 angle units: a length of 7 is reached, one of 8 is not. -/
theorem witness_RampsComplete :
    (∀ s ∈ [soft 7, soft 8], s.rstLow = false ∧ s.noExpiry = true ∧ 1 ≤ s.measure.tripCount ∧
      s.unprotected quiet = true ∧ s.openedState = .softstart ∧
      (s.composer.softAdvance + s.incrementDue) * 3600 / 2 ^ 32 = 7 ∧
      lowestLane (getPhase s.composer.claims.level .A) = none) ∧
    (∀ s ∈ [ramping 7, ramping 8], s.rstLow = false ∧ s.noExpiry = true ∧ 1 ≤ s.measure.tripCount ∧
      s.unprotected quiet = true ∧ s.openedState = .releasing ∧ s.releaseDue = false ∧
      s.composer.rampRunning = true ∧ (s.composer.releaseAdvance + s.incrementDue) * 3600 / 2 ^ 32 = 7) ∧
    (let s := releasing (inState .closing)
     s.rstLow = false ∧ s.noExpiry = true ∧ 1 ≤ s.measure.tripCount ∧ s.unprotected quiet = true ∧
       s.releaseDue = true ∧ s.enteredState = .closing) := by decide

/-- Lane 0 in an application of a LEVEL or OPEN episode on phase A, which it claims; phase A's relay is CLOSED. -/
def claiming (kind : Kind) (e : EngineState) : State :=
  withRelayA .closed 0
    (withLane0 { holding .active { dwell with kind := kind } with envelope := ⟨15000, 0, 0⟩ } (inState e))

/-- An owner of each sort, and none, in each engine state that the commands separate. -/
theorem witness_LevelsAndRelayCommandsFollowTheOwner :
    (∀ kind ∈ [Kind.level 15000, .openCircuit],
      let s := claiming kind .running
      let t := after (.sampleEvent quiet) s
      s.rstLow = false ∧ s.noExpiry = true ∧ t.control.engine = .running ∧ t.composer.claims.level.a.l0 = true ∧
        (getLane t.lanes .l0).current = some { dwell with kind := kind } ∧ present s.control.mode .B = false) ∧
    (∀ e ∈ [EngineState.standby, .loading, .closing, .softstart, .running, .releasing, .tripped, .faulted],
      let t := after (.sampleEvent quiet) (inState e)
      t.control.engine = e ∧ t.composer.claims.level = perPhase (perLane false)) := by decide

/-- The same with the settings of 6.11 and θ at the peak of the fundamental at the next sample event. -/
def atPeak (kind : Kind) (e : EngineState) : State :=
  { claiming kind e with
    timebase := { (inState e).timebase with theta := 0x40000000 - 8388608 }
    synth := { peak := ⟨400000, 0, 0⟩, ceiling := 599960, cycleClips := perPhase 0 } }

/-- One sample of worked values. 4.7, (20, 205): the first sample of an EXIT ramp from 4000 toward 10 000, at q = 1 of
360, is 4016, and the sample before it still holds. R79: from an origin of 8000, 7 of 8 units on, the release envelope
is 8000 + trunc(−8000 × 7 / 8). 6.11, (80, 128) and (82, 128): at E = 15 000 the code 599 998 is sent as the ceiling and
counted as a clip of the phase and of the lane, and at E = 12 000 it is 479 999. The ceiling is the example's own (log
entry 27). R49: a first application on the LATE mark carries LATE at the trigger's first evaluation, and not at a later
one. -/
theorem test_sample_values :
    ([360, 358].map (fun exit =>
        (after (.sampleEvent quiet) (levelling .active 0 exit 1800)).composer.lastComposed.a) = [4016, 4000]) ∧
    (after (.sampleEvent quiet) { ramping 8 with
      composer := { (ramping 8).composer with releaseOrigin := ⟨8000, 0, 0⟩ } }).composer.lastComposed.a = 1000 ∧
    (let t := after (.sampleEvent quiet) (atPeak (.level 15000) .running)
     t.link.buffer0.a = 599960 ∧ t.synth.cycleClips.a = 1 ∧ (getLane t.lanes .l0).clips = 1) ∧
    (let t := after (.sampleEvent quiet) (atPeak (.level 12000) .running)
     t.link.buffer0.a = 479999 ∧ t.synth.cycleClips.a = 0) ∧
    [false, true].map (fun evaluated =>
        (after (.sampleEvent quiet) (withLane0 { holding .waiting dwell with
          application := 0, late := true, evaluated := evaluated } (inState .running))).journal.queue.map Record.body) =
      [[.episodeStart false false true (perPhase 0) 0 1], [.episodeStart false false false (perPhase 0) 0 1]] := by decide

theorem witness_LiveCodesFollowTheOwners :
    (∀ e ∈ [EngineState.softstart, .running, .releasing, .closing],
      (atPeak (.level 15000) e).rstLow = false ∧ (atPeak (.level 15000) e).noExpiry = true ∧
        (after (.sampleEvent quiet) (atPeak (.level 15000) e)).control.engine = e) ∧
    (let s := atPeak (.level 15000) .running
     (getLane s.lanes .l0).state = .active ∧ (getLane (after (.sampleEvent quiet) s).lanes .l0).state = .active) ∧
    (let s := withLane0 (holding .waiting dwell) (inState .running)
     (getLane s.lanes .l0).state = .waiting ∧ (getLane (after (.sampleEvent quiet) s).lanes .l0).state = .active) := by
  decide

theorem witness_RelaysFollowTheirCommands :
    (∀ r ∈ [(RelayState.opened, 0), (.closed, 0), (.closing, 1), (.closing, 2), (.opening, 1), (.opening, 2)],
      let s := withRelayA r.1 r.2 (inState .running)
      s.rstLow = false ∧ s.noExpiry = true ∧ 1 ≤ s.measure.tripCount ∧ present s.control.mode .A = true ∧
        present s.control.mode .B = false ∧ (getPhase s.relays.relay .A).state = r.1 ∧
        (getPhase s.relays.relay .A).remaining = r.2 ∧ s.unprotected quiet = true ∧ s.unprotected faulty = false) := by
  decide

/-- A cycle start in an engine state with a summary period. -/
def summing (e : EngineState) (period : Nat) : State :=
  { atAngle e 0xFF800000 with measure := { (inState e).measure with summaryPeriod := period } }

theorem witness_CycleSummaryIsPosted :
    (∀ s ∈ [summing .running 1, summing .running 2, summing .softstart 1],
      s.rstLow = false ∧ s.noExpiry = true ∧ s.cycleStartDue = true ∧ s.measure.summaryCounter = 0) ∧
    ((summing .running 1).openedState = .running ∧ (summing .running 1).measure.summaryPeriod = 1) ∧
    ((summing .running 2).openedState = .running ∧ (summing .running 2).measure.summaryPeriod = 2) ∧
    (summing .softstart 1).openedState ≠ .running := by decide

/-- The marker's countdown and its request of two sample events before. -/
def marking (count : Nat) (request : Bool) : State :=
  { inState .running with
    link := { (inState .running).link with marker := true, markerCount := count, markerRequest2 := request } }

theorem witness_MarkerPulsesLastFourSamples :
    ∀ r ∈ [(0, true), (1, false), (2, false), (4, false)],
      (marking r.1 r.2).rstLow = false ∧ (marking r.1 r.2).link.markerRequest2 = r.2 ∧
        (marking r.1 r.2).link.markerCount = r.1 := by decide

theorem witness_PostingKeepsTheEarliestEight :
    ∀ j ∈ [Journal.reset, { queue := List.replicate 8 aRecord, drops := 4294967295 }],
      j.queue.length ≤ 8 ∧ j.drops ≤ 4294967295 := by decide

theorem witness_CompositeWaveformArithmetic :
    ({ order := 40, amplitude := 3000, phase := 3599 } : Component).amplitude ≤ 3000 ∧
      List.Perm [({ order := 3, amplitude := 3000, phase := 0 } : Component), { order := 2, amplitude := 0, phase := 0 }]
        [{ order := 2, amplitude := 0, phase := 0 }, { order := 3, amplitude := 3000, phase := 0 }] :=
  ⟨by decide, List.Perm.swap _ _ []⟩

theorem witness_CodeArithmetic :
    (((500000 : Nat) : Int) < 500001 ∧ (-500001 : Int) < -((500000 : Nat) : Int)) ∧
      (∀ code ∈ [(-500000 : Int), 500000], -((500000 : Nat) : Int) ≤ code ∧ code ≤ (500000 : Nat)) := by decide

theorem witness_FrequencyMovesByTheSlew :
    (1 ≤ 10 ∧ |((50010 : Nat) : Int) - (50000 : Nat)| ≤ (10 : Nat)) ∧
      ((10 : Nat) : Int) < (50011 : Nat) - (50000 : Nat) ∧ ((49989 : Nat) : Int) - (50000 : Nat) < -(10 : Nat) ∧
      45000 ≤ 45000 ∧ 65000 ≤ 65000 := by decide

/-- Lane 0 in an application, and the command that waits. -/
def runningWith (c : Instr) : State := { withLane0 (holding .active dwell) (inState .running) with pending := [c] }

theorem witness_BooksStayInOrder :
    (runningWith (.sampleEvent quiet)).BooksInOrder ∧ ∃ t, step (runningWith (.sampleEvent quiet)) = .next t :=
  ⟨⟨by decide, by decide, by decide, by decide, by decide, by decide, by decide⟩, _, rfl⟩

theorem witness_FrequencyStaysInRange :
    (runningWith (.sampleEvent quiet)).FrequencyInRange ∧ ∃ t, step (runningWith (.sampleEvent quiet)) = .next t :=
  ⟨⟨by decide, ⟨by decide, by decide⟩, ⟨by decide, by decide⟩, ⟨by decide, by decide⟩, by decide⟩, _, rfl⟩

theorem witness_LevelsStayInRange :
    (runningWith (.sampleEvent quiet)).LevelsInRange ∧ ∃ t, step (runningWith (.sampleEvent quiet)) = .next t :=
  ⟨{ kinds := by decide
     starts := fun k x => by cases k <;> cases x <;> exact ⟨by decide, by decide⟩
     envelopes := fun k x => by cases k <;> cases x <;> exact ⟨by decide, by decide⟩
     origins := fun k x => by cases k <;> cases x <;> exact ⟨by decide, by decide⟩
     steady := fun x => by cases x <;> decide
     composed := fun x => by cases x <;> exact ⟨by decide, by decide⟩
     releases := fun x => by cases x <;> exact ⟨by decide, by decide⟩
     tripCount := by decide
     operateTimes := by decide
     peakCodes := fun x => by cases x <;> decide
     ceiling := by decide }, _, rfl⟩

theorem witness_EngineStaysInAgreement :
    (runningWith (.sampleEvent quiet)).EngineAgrees ∧ ∃ t, step (runningWith (.sampleEvent quiet)) = .next t :=
  ⟨{ states := fun k => by cases k <;> decide
     slots := fun k => by cases k <;> decide
     requests := fun k => by cases k <;> decide
     wanted := fun k => by cases k <;> decide
     claims := by decide
     progress := by decide
     opened := by decide
     deferred := by decide
     relays := fun x => by cases x <;> decide
     absent := fun x => by cases x <;> decide
     load := by decide
     once := by decide }, _, rfl⟩

end Sys2Proof.Tests
end

section
/-! ### The ramps of a loaded episode (R42)

What `cutRamps` answers, which of its answers a loaded episode holds for its kind, and the bit of EPISODE_START that
shows the mark. -/

namespace Sys2Proof.Machine

/-- The entry ramp, the hold and the exit ramp fill the duration exactly. -/
theorem cutRamps_sum (duration entryRamp exitRamp : Nat) :
    (cutRamps duration entryRamp exitRamp).1 + (cutRamps duration entryRamp exitRamp).2.1 +
      (cutRamps duration entryRamp exitRamp).2.2.1 = duration := by
  simp only [cutRamps]
  omega

/-- A loaded episode's ramps and mark, in the order of `cutRamps`. -/
def Episode.ramps (ep : Episode) : Nat × Nat × Nat × Bool := (ep.entry, ep.hold, ep.exit, ep.rampCut)

section
variable (mode : BitVec 2) (n : Nat) (ws : List Word) (clamped : Bool) (trigger : Trigger)

theorem loadEpisode_ramps_level (target : Nat) :
    (loadEpisode mode n ws (.level target) clamped trigger).ramps =
      cutRamps (u32 ws 16) (u16 ws 20) (u16 ws 22) := rfl

theorem loadEpisode_ramps_of_ne_level {kind : Kind} (h : ∀ target, kind ≠ .level target) :
    (loadEpisode mode n ws kind clamped trigger).ramps = (0, u32 ws 16, 0, false) := by
  cases kind with
  | level target => exact absurd rfl (h target)
  | openCircuit | shape | flicker | freq | jump | dwell | mark => rfl

/-- Entry ramp, hold and exit ramp of a loaded episode of any kind fill its duration. -/
theorem loadEpisode_ramps_sum (kind : Kind) :
    (loadEpisode mode n ws kind clamped trigger).entry + (loadEpisode mode n ws kind clamped trigger).hold +
        (loadEpisode mode n ws kind clamped trigger).exit =
      (loadEpisode mode n ws kind clamped trigger).duration := by
  cases kind with
  | level target => exact cutRamps_sum (u32 ws 16) (u16 ws 20) (u16 ws 22)
  | openCircuit | shape | flicker | freq | jump | dwell | mark => exact Nat.zero_add (u32 ws 16)

end

/-- Bit 1 of a byte of detail bits is the second of them. -/
@[simp] theorem detailByte_getLsbD_one (b0 b1 b2 : Bool) : (detailByte b0 b1 b2).getLsbD 1 = b1 := by
  cases b0 <;> cases b1 <;> cases b2 <;> rfl

/-- The first record of an application is EPISODE_START, and bit 1 of its detail byte is the episode's RAMP_CUT. -/
theorem startRecords_head (e : SampleEnv) (ep : Episode) (late : Bool) (start : PerPhase Int)
    (iref application : Nat) :
    ∃ r rest, startRecords e ep late start iref application = r :: rest ∧
      r.body.kindCode = 1 ∧ r.body.detail.getLsbD 1 = ep.rampCut :=
  ⟨_, _, rfl, rfl, detailByte_getLsbD_one ep.clamped ep.rampCut late⟩

/-- Settles O24: a LEVEL record holds what `cutRamps` answers, any other kind no ramps. -/
theorem rampsAreCutToFit : Obligations.RampsAreCutToFit := by
  intro mode n ws kind clamped trigger ep
  refine ⟨?level, ?other, loadEpisode_ramps_sum mode n ws clamped trigger kind, startRecords_head (ep := ep)⟩
  case level =>
    rintro ⟨target, rfl⟩
    have hcut : ep.ramps = cutRamps (u32 ws 16) (u16 ws 20) (u16 ws 22) :=
      loadEpisode_ramps_level mode n ws clamped trigger target
    simp only [Episode.ramps, cutRamps, Prod.mk.injEq] at hcut
    obtain ⟨hentry, hhold, hexit, hmark⟩ := hcut
    rw [← hentry] at hhold hexit hmark
    rw [← hexit] at hhold hmark
    exact ⟨hentry, hexit, hhold, by simp only [hmark, Bool.or_eq_true, bne_iff_ne]⟩
  case other =>
    intro hkind
    have hnone : ep.ramps = (0, u32 ws 16, 0, false) := loadEpisode_ramps_of_ne_level mode n ws clamped trigger hkind
    simpa only [Episode.ramps, Prod.mk.injEq] using hnone

end Sys2Proof.Machine
end

section
/-! ### The sine lookup and the composite value (R105 to R109)

What an entry of the sine table is in each quarter cycle and how large it can be, what floor and truncation leave of a
quotient, and from these the lookup, the term of a component and the composite value. -/

namespace Sys2Proof.Machine

/-! #### The sine table (R105) -/

theorem sineTable_length : sineTable.length = 1024 := by rw [sineTable, List.length_map, List.length_range]

theorem sineTable_getD {k : Nat} (hk : k < 1024) : sineTable.getD k 0 = sineEntry k := by
  simp [sineTable, hk]

/-- The entry after the last is the first again. -/
theorem sineEntry_mod (n : Nat) : sineEntry (n % 1024) = sineEntry n := by
  simp only [sineEntry, Nat.mod_mod]

section
variable {m : Nat} (hm : m ≤ 256)
include hm

theorem sineEntry_first_quarter : sineEntry m = quarterEntry m := by
  have hmod : m % 1024 = m := Nat.mod_eq_of_lt (by omega)
  simp only [sineEntry, hmod, if_pos hm]

theorem sineEntry_second_quarter : sineEntry (512 - m) = quarterEntry m := by
  rcases Nat.eq_or_lt_of_le hm with rfl | hlt
  · exact sineEntry_first_quarter (le_refl 256)
  · have hmod : (512 - m) % 1024 = 512 - m := Nat.mod_eq_of_lt (by omega)
    have hback : 512 - (512 - m) = m := by omega
    simp only [sineEntry, hmod, if_neg (show ¬ 512 - m ≤ 256 by omega), if_pos (Nat.sub_le 512 m), hback]

theorem sineEntry_third_quarter : sineEntry (512 + m) = -quarterEntry m := by
  rcases Nat.eq_zero_or_pos m with rfl | hpos
  · rfl
  · have hmod : (512 + m) % 1024 = 512 + m := Nat.mod_eq_of_lt (by omega)
    simp only [sineEntry, hmod, if_neg (show ¬ 512 + m ≤ 256 by omega), if_neg (show ¬ 512 + m ≤ 512 by omega),
      if_pos (show 512 + m ≤ 768 by omega), Nat.add_sub_cancel_left]

theorem sineEntry_fourth_quarter : sineEntry (1024 - m) = -quarterEntry m := by
  rcases Nat.eq_zero_or_pos m with rfl | hpos
  · rfl
  rcases Nat.eq_or_lt_of_le hm with rfl | hlt
  · exact sineEntry_third_quarter (le_refl 256)
  · have hmod : (1024 - m) % 1024 = 1024 - m := Nat.mod_eq_of_lt (by omega)
    have hback : 1024 - (1024 - m) = m := by omega
    simp only [sineEntry, hmod, if_neg (show ¬ 1024 - m ≤ 256 by omega), if_neg (show ¬ 1024 - m ≤ 512 by omega),
      if_neg (show ¬ 1024 - m ≤ 768 by omega), hback]

end

/-- The first half cycle is the same read backwards. -/
theorem sineEntry_half_sub {k : Nat} (hk : k ≤ 512) : sineEntry (512 - k) = sineEntry k := by
  rcases Nat.le_total k 256 with hfirst | hsecond
  · rw [sineEntry_second_quarter hfirst, sineEntry_first_quarter hfirst]
  · have hquarter : 512 - k ≤ 256 := by omega
    rw [sineEntry_first_quarter hquarter, ← sineEntry_second_quarter hquarter, Nat.sub_sub_self hk]

/-- The second half cycle is the first one negated. -/
theorem sineEntry_half_add {k : Nat} (hk : k ≤ 512) : sineEntry (512 + k) = -sineEntry k := by
  rcases Nat.le_total k 256 with hfirst | hsecond
  · rw [sineEntry_third_quarter hfirst, sineEntry_first_quarter hfirst]
  · have hquarter : 512 - k ≤ 256 := by omega
    have hfull : 1024 - (512 - k) = 512 + k := by omega
    rw [← hfull, sineEntry_fourth_quarter hquarter, ← sineEntry_second_quarter hquarter, Nat.sub_sub_self hk]

theorem sineQuarter_le : ∀ n ∈ sineQuarter, n ≤ 131071 := by
  simp only [sineQuarter, List.forall_mem_append]
  exact ⟨⟨⟨⟨by decide, by decide⟩, by decide⟩, by decide⟩, by decide⟩

theorem abs_quarterEntry_le (k : Nat) : |quarterEntry k| ≤ 131071 := by
  have hle : sineQuarter.getD k 0 ≤ 131071 := by
    rcases Nat.lt_or_ge k sineQuarter.length with hlt | hge
    · rw [List.getD_eq_getElem _ _ hlt]
      exact sineQuarter_le _ (List.getElem_mem hlt)
    · rw [List.getD_eq_default _ _ hge]
      exact Nat.zero_le _
  rw [quarterEntry, Int.ofNat_eq_natCast, Nat.abs_cast]
  exact_mod_cast hle

theorem abs_sineEntry_le (n : Nat) : |sineEntry n| ≤ 131071 := by
  simp only [sineEntry]
  split_ifs
  · exact abs_quarterEntry_le _
  · exact abs_quarterEntry_le _
  · exact (abs_neg _).trans_le (abs_quarterEntry_le _)
  · exact (abs_neg _).trans_le (abs_quarterEntry_le _)

/-- The entries that the manual lists, each with its index (R105). -/
def listedSineEntries : List (Nat × Int) :=
  [(0, 0), (1, 804), (2, 1608), (3, 2413), (128, 92681), (254, 131061), (255, 131069), (256, 131071),
    (258, 131061), (384, 92681), (512, 0), (640, -92681), (768, -131071), (896, -92681), (1022, -1608), (1023, -804)]

theorem sineEntry_of_listed : ∀ e ∈ listedSineEntries, e.1 < 1024 ∧ sineEntry e.1 = e.2 := by decide

/-! #### Floor and truncation -/

/-- The floor of a quotient is the one integer from which less than a divisor is left (00, rounding words). -/
theorem floorDiv_bounds (n : Int) {d : Nat} (hd : 0 < d) :
    d * floorDiv n d ≤ n ∧ n < d * (floorDiv n d + 1) := by
  have hd' : (0 : Int) < d := Int.natCast_pos.mpr hd
  exact ⟨Int.mul_fdiv_self_le hd', (Int.lt_mul_fdiv_self_add hd').trans_eq (mul_add_one _ _).symm⟩

/-- A floor interpolation strictly before the next point stays between the two points. -/
theorem floorDiv_interpolation_between (low high : Int) {r d : Nat} (hr : r < d) :
    min low high ≤ low + floorDiv ((high - low) * r) d ∧ low + floorDiv ((high - low) * r) d ≤ max low high := by
  have hd : (0 : Int) < d := by omega
  have hr' : (r : Int) ≤ d := by omega
  obtain ⟨hbelow, habove⟩ := floorDiv_bounds ((high - low) * r) (show 0 < d by omega)
  rcases le_total low high with hup | hdown
  · have hnonneg : 0 ≤ (high - low) * r := mul_nonneg (by omega) (by omega)
    have hfull : (high - low) * r ≤ d * (high - low) :=
      (mul_le_mul_of_nonneg_left hr' (sub_nonneg.mpr hup)).trans_eq (mul_comm _ _)
    have hlo : 0 < floorDiv ((high - low) * r) d + 1 := pos_of_mul_pos_right (hnonneg.trans_lt habove) hd.le
    have hhi : floorDiv ((high - low) * r) d ≤ high - low := le_of_mul_le_mul_left (hbelow.trans hfull) hd
    omega
  · have hnonpos : (high - low) * r ≤ 0 := mul_nonpos_of_nonpos_of_nonneg (by omega) (by omega)
    have hfull : d * (high - low) ≤ (high - low) * r :=
      (mul_comm _ _).trans_le (mul_le_mul_of_nonpos_left hr' (sub_nonpos.mpr hdown))
    have hhi : floorDiv ((high - low) * r) d ≤ 0 := nonpos_of_mul_nonpos_right (hbelow.trans hnonpos) hd
    have hlo : high - low < floorDiv ((high - low) * r) d + 1 := lt_of_mul_lt_mul_left (hfull.trans_lt habove) hd.le
    omega

theorem abs_truncDiv (n : Int) (d : Nat) : |truncDiv n d| = ((n.natAbs / d : Nat) : Int) := by
  rw [truncDiv, Int.abs_eq_natAbs, Int.natAbs_tdiv, Int.natAbs_natCast]
  rfl

/-! #### The lookup (R106) -/

theorem sineOf_bounds (a : Word) :
    4096 * (sineOf a - sineEntry (a.toNat / 2 ^ 22)) ≤
        (sineEntry (a.toNat / 2 ^ 22 + 1) - sineEntry (a.toNat / 2 ^ 22)) * (a.toNat / 2 ^ 10 % 4096 : Nat) ∧
      (sineEntry (a.toNat / 2 ^ 22 + 1) - sineEntry (a.toNat / 2 ^ 22)) * (a.toNat / 2 ^ 10 % 4096 : Nat) <
        4096 * (sineOf a - sineEntry (a.toNat / 2 ^ 22) + 1) := by
  simp only [sineOf, add_sub_cancel_left]
  exact floorDiv_bounds _ (by decide)

theorem sineOf_between (a : Word) :
    min (sineEntry (a.toNat / 2 ^ 22)) (sineEntry (a.toNat / 2 ^ 22 + 1)) ≤ sineOf a ∧
      sineOf a ≤ max (sineEntry (a.toNat / 2 ^ 22)) (sineEntry (a.toNat / 2 ^ 22 + 1)) :=
  floorDiv_interpolation_between _ _ (Nat.mod_lt _ (by decide))

theorem abs_sineOf_le (a : Word) : |sineOf a| ≤ 131071 := by
  obtain ⟨hlo, hhi⟩ := sineOf_between a
  have hlow := abs_le.mp (abs_sineEntry_le (a.toNat / 2 ^ 22))
  have hhigh := abs_le.mp (abs_sineEntry_le (a.toNat / 2 ^ 22 + 1))
  exact abs_le.mpr ⟨(le_min hlow.1 hhigh.1).trans hlo, hhi.trans (max_le hlow.2 hhigh.2)⟩

/-! #### Components and the composite value (R107 to R109) -/

/-- The two parts of a component's angle may be added before the one reduction modulo 2^32 (R107). -/
theorem componentAngle_eq (phi : Word) (c : Component) :
    componentAngle phi c = BitVec.ofNat 32 (c.order * phi.toNat + c.phase * 2 ^ 32 / 3600) :=
  (BitVec.ofNat_add (c.order * phi.toNat) (c.phase * fullCycle / 3600)).symm

theorem abs_componentTerm_le (phi : Word) {c : Component} (hamplitude : c.amplitude ≤ 3000) :
    |componentTerm phi c| ≤ 39321 := by
  have hsine : (sineOf (componentAngle phi c)).natAbs ≤ 131071 := by
    have h := abs_sineOf_le (componentAngle phi c)
    rw [Int.abs_eq_natAbs] at h
    exact_mod_cast h
  have hproduct : (sineOf (componentAngle phi c)).natAbs * c.amplitude ≤ 131071 * 3000 :=
    Nat.mul_le_mul hsine hamplitude
  rw [componentTerm, abs_truncDiv, Int.natAbs_mul, Int.ofNat_eq_natCast, Int.natAbs_natCast]
  omega

theorem componentTerm_of_amplitude_zero (phi : Word) {c : Component} (hzero : c.amplitude = 0) :
    componentTerm phi c = 0 := by
  simp [componentTerm, truncDiv, hzero]

theorem foldl_add_componentTerm (phi : Word) (cs : List Component) (w : Int) :
    cs.foldl (fun w c => w + componentTerm phi c) w = w + (cs.map (componentTerm phi)).sum := by
  induction cs generalizing w with
  | nil => exact (add_zero w).symm
  | cons c cs ih => rw [List.foldl_cons, ih, List.map_cons, List.sum_cons, add_assoc]

theorem composite_eq_sum (phi : Word) (cs : List Component) :
    composite phi cs = sineOf phi + (cs.map (componentTerm phi)).sum :=
  foldl_add_componentTerm phi cs (sineOf phi)

theorem composite_perm (phi : Word) {cs cs' : List Component} (h : cs.Perm cs') :
    composite phi cs' = composite phi cs := by
  rw [composite_eq_sum, composite_eq_sum, (h.map (componentTerm phi)).sum_eq]

/-- Settles O53: the table through its quarters, the lookup as a floor interpolation between two entries, and the
composite value as a sum. -/
theorem compositeWaveformArithmetic : Obligations.CompositeWaveformArithmetic := by
  refine ⟨⟨sineTable_length, ?backwards, ?negated, ?listed⟩, ?lookup, ?component, ?composite⟩
  case backwards =>
    intro k hk
    rw [sineTable_getD (by omega), sineTable_getD (by omega), sineEntry_half_sub hk]
  case negated =>
    intro k hk
    rw [sineTable_getD (by omega), sineTable_getD (by omega), sineEntry_half_add (by omega)]
  case listed =>
    intro e he
    obtain ⟨hindex, hvalue⟩ := sineEntry_of_listed e he
    rw [sineTable_getD hindex, hvalue]
  case lookup =>
    intro a i r low high
    have hi : i < 1024 := Nat.div_lt_of_lt_mul a.isLt
    have hlow : low = sineEntry i := sineTable_getD hi
    have hhigh : high = sineEntry (i + 1) := (sineTable_getD (Nat.mod_lt _ (by decide))).trans (sineEntry_mod _)
    obtain ⟨hfloor, hnext⟩ := sineOf_bounds a
    obtain ⟨hmin, hmax⟩ := sineOf_between a
    rw [hlow, hhigh]
    exact ⟨hi, hfloor, hnext, hmin, hmax, abs_sineOf_le a, by decide, by decide⟩
  case component =>
    intro phi c hamplitude
    exact ⟨componentAngle_eq phi c, rfl, abs_componentTerm_le phi hamplitude, componentTerm_of_amplitude_zero phi⟩
  case composite =>
    intro phi cs cs'
    exact ⟨composite_eq_sum phi cs, composite_perm phi⟩

end Sys2Proof.Machine
end

section
/-! ### One write to CTRL (R160)

Running several commands in turn, the outcome of CLEAR, START and RELEASE in the engine states the worked consequences
of R160 speak of, and from these the write. -/

namespace Sys2Proof.Machine

/-- Running two groups of commands is running the first, then the second from where it ends. -/
theorem runAll_append (cs ds : List Instr) (s : State) : runAll (cs ++ ds) s = (runAll cs s).bind (runAll ds) := by
  induction cs generalizing s with
  | nil => rfl
  | cons c rest ih =>
    rw [List.cons_append, runAll, runAll]
    split
    · exact ih _
    · rfl

theorem runAll_cons_of_next {c : Instr} {s t : State} (h : exec c s = .next t) (rest : List Instr) :
    runAll (c :: rest) s = runAll rest t := by
  rw [runAll, h]

theorem runAll_pair {c d : Instr} {s t u : State} (hc : exec c s = .next t) (hd : exec d t = .next u) :
    runAll [c, d] s = some u := by
  rw [runAll_cons_of_next hc, runAll_cons_of_next hd, runAll]

theorem commandsOfWrite_ctrl (value : Word) : commandsOfWrite 0x04 4 value = ctrlCommands value := rfl

theorem whileReleased_of_released {s : State} (h : s.rstLow = false) (t : State) : whileReleased s t = .next t := by
  rw [whileReleased, h]
  rfl

theorem exec_start_of_standby {s : State} (h : s.rstLow = false) (hengine : s.control.engine = .standby) :
    exec .start s = .next s.started :=
  (whileReleased_of_released h _).trans (by rw [if_pos hengine])

theorem exec_start_of_ne_standby {s : State} (h : s.rstLow = false) (hengine : s.control.engine ≠ .standby) :
    exec .start s = .next s :=
  (whileReleased_of_released h _).trans (by rw [if_neg hengine])

theorem exec_release_of_loading {s : State} (h : s.rstLow = false) (hengine : s.control.engine = .loading) :
    exec .release s = .next s :=
  (whileReleased_of_released h _).trans (by rw [if_pos hengine])

section
variable {s : State} (h : s.rstLow = false) (hengine : s.control.engine = .tripped)
  (hclear : s.control.deferredClear = false)
include h hengine hclear

/-- A first CLEAR in TRIPPED is acted on at once where every present relay is OPEN. -/
theorem exec_clear_of_opened (hopened : allPresent s.control.mode s.relays .opened = true) :
    exec .clear s = .next s.cleared :=
  (whileReleased_of_released h _).trans (by rw [hengine, hclear, hopened]; rfl)

/-- A first CLEAR in TRIPPED is deferred where a present relay is not OPEN. -/
theorem exec_clear_of_not_opened (hopened : allPresent s.control.mode s.relays .opened = false) :
    exec .clear s = .next { s with control := { s.control with deferredClear := true } } :=
  (whileReleased_of_released h _).trans (by rw [hengine, hclear, hopened]; rfl)

end

/-- Settles O11: `runAll_append` cuts the write into its four actions. CLEAR at once leaves STANDBY, where START is
accepted; CLEAR deferred leaves TRIPPED, where it is ignored; START leaves LOADING, where RELEASE is ignored. -/
theorem ctrlWriteTakesActionsInOrder : Obligations.CtrlWriteTakesActionsInOrder := by
  refine ⟨?softReset, ?order, ?clearStart, ?startRelease⟩
  case softReset =>
    intro value s hsrst
    rw [commandsOfWrite_ctrl, ctrlCommands, if_pos hsrst]
  case order =>
    intro value s hsrst
    rw [commandsOfWrite_ctrl, ctrlCommands, hsrst, if_neg Bool.false_ne_true, runAll_append, runAll_append,
      runAll_append]
  case clearStart =>
    intro s h hengine hclear
    cases hopened : allPresent s.control.mode s.relays .opened with
    | true =>
      have hclears : exec .clear s = .next s.cleared := exec_clear_of_opened h hengine hclear hopened
      have hstarts : exec .start s.cleared = .next s.cleared.started := exec_start_of_standby h rfl
      exact ⟨_, runAll_pair hclears hstarts, fun _ => ⟨rfl, hclear, rfl⟩, nofun⟩
    | false =>
      have hdefers := exec_clear_of_not_opened h hengine hclear hopened
      have hignored := exec_start_of_ne_standby (s := { s with control := { s.control with deferredClear := true } })
        h (by rw [hengine]; decide)
      exact ⟨_, runAll_pair hdefers hignored, nofun, fun _ => ⟨hengine, rfl, rfl⟩⟩
  case startRelease =>
    intro s h hengine
    have hstarts : exec .start s = .next s.started := exec_start_of_standby h hengine
    have hignored : exec .release s.started = .next s.started := exec_release_of_loading h rfl
    exact ⟨_, runAll_pair hstarts hignored, rfl, rfl⟩

end Sys2Proof.Machine
end

section
/-! ### What a command can do

One inversion for all 49 commands: a command that completes ignores its event, runs a sample event, or does the one
thing its row names. The invariants are proved over these effects and do not unfold `exec` again. -/

namespace Sys2Proof.Machine

/-- The part after a soft reset (R161, R171). -/
def State.softened (s : State) : State :=
  { State.powerOn s.control.mode s.pending with port := s.port.softReset, link := s.link.softReset }

/-- The part with RST held low (R176). -/
def State.heldLow (s : State) : State :=
  { s with
    rstLow := true
    relays := { s.relays with relay := Relays.reset.relay }
    link := { s.link with
      shifting := none, strobe := false, marker := false, markerCount := 0, markerRequest1 := false
      markerRequest2 := false }
    window := { s.window with alert := false, notice := false }
    port := { s.port with slot := none } }

/-- A stop becomes pending for lane k (R66). -/
def State.stopped (s : State) (k : LaneId) : State :=
  { s with
    lanes := setLane s.lanes k { getLane s.lanes k with pendingStop := true, request := none }
    port := s.port.discardFetches fun j => decide (j = k) }

/-- A resume frees lane k (R67). -/
def State.resumed (s : State) (k : LaneId) : State :=
  s.runLane k fun e l => cueTest e { l with state := .idle, late := false }

/-- The load's second transaction is issued (R4). -/
def State.readCountIssued (s : State) (base : Word) (header : Vector Word 17) : State :=
  { s with port := s.port.issueRead (.loadReadCount header) base (headerAddress base 120) 1 }

/-- The load's third transaction is issued (R4). -/
def State.writeCountIssued (s : State) (base : Word) (header : Vector Word 17) (word : Word) : State :=
  { s with port := s.port.issueWrite (.loadWriteCount header word) base (headerAddress base 216) [word] }

/-- The turns of the arbiter with the slot IDLE, by the request served (R16). -/
inductive Granted (s : State) : State → Prop
  | idle : Granted s s
  | load (hload : s.port.loadRequest = true) : Granted s s.grantLoad
  | journal (head : Record) (rest : List Record) (hqueue : s.journal.queue = head :: rest) :
      Granted s (s.grantJournal head rest)
  | fetch (k : LaneId) (f : Fetch) (hrequest : (getLane s.lanes k).request = some f) : Granted s (s.grantFetch k f)
  | taken (k : LaneId) : Granted s (s.grantTaken k)
  | written : Granted s s.grantWritten
  | scan : Granted s s.grantScan

/-- The completions of the transaction in flight, on the state with the slot freed, by its kind (R4 to R13, R39, R43). -/
inductive Completed (s : State) (tr : Transaction) : Instr → State → Prop
  | loadHeader (hk : tr.kind = .loadHeader) (header : Vector Word 17) :
      Completed s tr (.runSettingsReadComplete (.header header)) (s.readCountIssued tr.base header)
  | loadReadCount (header : Vector Word 17) (hk : tr.kind = .loadReadCount header) (word : Word) :
      Completed s tr (.runSettingsReadComplete (.readCount word)) (s.writeCountIssued tr.base header word)
  | load (header : Vector Word 17) (word : Word) (hk : tr.kind = .loadWriteCount header word) :
      Completed s tr .loadComplete (s.loadDone header.toList word)
  | scan (hk : tr.kind = .scan) (words : Vector Word 7) : Completed s tr (.scanComplete words) (s.scanDone words)
  | cue (k : LaneId) (wanted : Bool) (hk : tr.kind = .laneFetch k .cue wanted) (word : Word) :
      Completed s tr (.cueFetchComplete word) (s.cueDone k wanted word)
  | episode (k : LaneId) (n : Nat) (wanted : Bool) (hk : tr.kind = .laneFetch k (.episode n) wanted)
      (words : Vector Word 9) :
      Completed s tr (.episodeFetchComplete words) (s.episodeDone k wanted n words.toList)
  | shapeCount (k : LaneId) (ep : Episode) (wanted : Bool) (hk : tr.kind = .laneFetch k (.shapeCount ep) wanted)
      (word : Word) :
      Completed s tr (.shapeCountReadComplete word) (s.shapeCountDone k wanted ep word)
  | shapeComponents (k : LaneId) (ep : Episode) (count : Nat) (wanted : Bool)
      (hk : tr.kind = .laneFetch k (.shapeComponents ep count) wanted) (words : Vector Word 18) :
      Completed s tr (.shapeComponentReadComplete words) (s.shapeComponentsDone k wanted ep count words.toList)
  | taken (k : LaneId) (value : Word) (hk : tr.kind = .takenCount k value) :
      Completed s tr .takenCountWriteBackComplete (s.takenDone k value)
  | record (dropsTaken : Nat) (hk : tr.kind = .journalRecord dropsTaken) :
      Completed s tr .journalRecordWriteComplete (s.recordDone tr.base dropsTaken)
  | count (hk : tr.kind = .journalCount ∨ tr.kind = .writtenCount) :
      Completed s tr .writtenCountWriteComplete s.countDone

/-- What a command can do to the part. -/
inductive Effect (s : State) : Instr → State → Prop
  | ignored (c : Instr) : Effect s c s
  | powerOn (mode1 mode0 : Bool) : Effect s (.powerOnReset mode1 mode0) (State.powerOn (modeOfPins mode1 mode0) s.pending)
  | softReset : Effect s .softReset s.softened
  | heldLow : Effect s .rstHeldLow s.heldLow
  | start (hengine : s.control.engine = .standby) : Effect s .start s.started
  | release (hengine : s.control.engine ≠ .loading) :
      Effect s .release { s with control := { s.control with pendingRelease := true } }
  | nudge : Effect s .nudge { s with port := s.port.requestScan }
  | clear (hengine : (s.control.engine = .tripped ∧ s.control.deferredClear = false) ∨ s.control.engine = .faulted) :
      Effect s .clear s.cleared
  | deferClear (hengine : s.control.engine = .tripped) (hclear : s.control.deferredClear = false) :
      Effect s .clear { s with control := { s.control with deferredClear := true } }
  | flags (value : Word) : Effect s (.flagsWrite value) { s with window := s.window.writeFlags value }
  | mask (value : Word) : Effect s (.maskWrite value) { s with window := s.window.writeMask value }
  | planBase (value : Word) :
      Effect s (.planbaseWrite value) { s with port := { s.port with planBase := planBaseOf value } }
  | stop (k : LaneId) (hstate : (getLane s.lanes k).state ≠ .halted) : Effect s (.laneStop k) (s.stopped k)
  | resume (k : LaneId) (hstate : (getLane s.lanes k).state = .halted) : Effect s (.laneResume k) (s.resumed k)
  | sample (c : Instr) (i : SampleInputs) (hrst : s.rstLow = false) : Effect s c (sampleWork i s).state
  | receive (frame : FrameArrival) : Effect s (.measurementFrame frame) { s with measure := s.measure.receive frame }
  | grant (hslot : s.port.slot = none) {t : State} (h : Granted s t) : Effect s .arbiterGrant t
  | disowned (c : Instr) (tr : Transaction) (hslot : s.port.slot = some tr) (horphan : tr.orphan = true) :
      Effect s c s.freeSlot
  | completed {c : Instr} (tr : Transaction) (hslot : s.port.slot = some tr) (horphan : tr.orphan = false) {t : State}
      (h : Completed s.freeSlot tr c t) : Effect s c t
  | failed (tr : Transaction) (hslot : s.port.slot = some tr) (horphan : tr.orphan = false) :
      Effect s .busErrorResponse s.failNow

theorem whileReleased_cases {s t u : State} (h : whileReleased s t = .next u) :
    (s.rstLow = true ∧ u = s) ∨ (s.rstLow = false ∧ u = t) := by
  cases hrst : s.rstLow with
  | true =>
    simp only [whileReleased, hrst, if_true, Host.Outcome.next.injEq] at h
    exact .inl ⟨rfl, h.symm⟩
  | false =>
    rw [whileReleased_of_released hrst, Host.Outcome.next.injEq] at h
    exact .inr ⟨rfl, h.symm⟩

/-- A command that acts while RST is high alone has its effect, or is ignored. -/
theorem effect_of_whileReleased {c : Instr} {s t u : State} (h : whileReleased s t = .next u)
    (heffect : Effect s c t) : Effect s c u := by
  obtain ⟨-, rfl⟩ | ⟨-, rfl⟩ := whileReleased_cases h
  · exact .ignored c
  · exact heffect

theorem effect_of_sampleWork (c : Instr) (i : SampleInputs) (s : State) : Effect s c (sampleWork i s).state := by
  cases hrst : s.rstLow with
  | true =>
    have hnone : (sampleWork i s).state = s := by rw [sampleWork, hrst]; rfl
    rw [hnone]
    exact .ignored c
  | false => exact .sample c i hrst

theorem effect_of_sampleRow {c : Instr} {what : Happening} {i : SampleInputs} {s t : State}
    (h : sampleRow what i s = .next t) : Effect s c t := by
  unfold sampleRow at h
  dsimp only at h
  split at h <;> cases h
  · exact effect_of_sampleWork c i s
  · exact .ignored c

/-- A completion's effect: its work on the transaction in flight where that is of its kind and not disowned (R15, R19). -/
theorem effect_onCompletion {c : Instr} {s : State} {kind : BusKind → Bool} {f : Transaction → State → State}
    (h : ∀ tr, kind tr.kind = true → Completed s.freeSlot tr c (f tr s.freeSlot)) :
    Effect s c (s.onCompletion kind f) := by
  obtain ⟨hidle, hflight⟩ := State.onCompletion_spec s kind f
  cases hslot : s.port.slot with
  | none => rw [hidle hslot]; exact .ignored c
  | some tr =>
    obtain ⟨hother, hdisowned, hown⟩ := hflight tr hslot
    cases hkind : kind tr.kind with
    | false => rw [hother hkind]; exact .ignored c
    | true =>
      cases horphan : tr.orphan with
      | true => rw [hdisowned hkind horphan]; exact .disowned c tr hslot horphan
      | false => rw [hown hkind horphan]; exact .completed tr hslot horphan (h tr hkind)

/-- The lane that the arbiter reaches has the request that it serves (R16). -/
theorem request_of_firstFetch {ls : PerLane Lane} {k : LaneId} {f : Fetch} (h : firstFetch ls = some (k, f)) :
    (getLane ls k).request = some f := by
  unfold firstFetch at h
  obtain ⟨j, -, hj⟩ := List.exists_of_findSome?_eq_some h
  simp only [Option.map_eq_some_iff, Prod.mk.injEq] at hj
  obtain ⟨g, hg, rfl, rfl⟩ := hj
  exact hg

theorem granted_grantNext (s : State) : Granted s s.grantNext := by
  unfold State.grantNext
  split
  · exact .load ‹_›
  · split
    · exact .journal _ _ ‹_›
    · split
      · exact .fetch _ _ (request_of_firstFetch ‹_›)
      · split
        · exact .taken _
        · split
          · exact .written
          · split
            · exact .scan
            · exact .idle

theorem effect_grant (s : State) : Effect s .arbiterGrant s.grant := by
  unfold State.grant
  split
  · exact .ignored _
  · exact .grant ‹_› (granted_grantNext s)

theorem effect_failNow (s : State) : Effect s .busErrorResponse s.failNow := by
  obtain ⟨hidle, hflight⟩ := State.fail_spec s
  cases hslot : s.port.slot with
  | none =>
    have hnone : s.failNow = s := by rw [State.failNow, hidle hslot]; rfl
    rw [hnone]
    exact .ignored _
  | some tr =>
    cases horphan : tr.orphan with
    | true =>
      have hends : s.failNow = s.freeSlot := by rw [State.failNow, (hflight tr hslot).1 horphan]; rfl
      rw [hends]
      exact .disowned _ tr hslot horphan
    | false => exact .failed tr hslot horphan

/-- Every command that completes has one of the effects. -/
theorem effect_of_exec {c : Instr} {s t : State} (h : exec c s = .next t) : Effect s c t := by
  cases c with
  | powerOnReset mode1 mode0 => cases h; exact .powerOn mode1 mode0
  | start =>
    refine effect_of_whileReleased h ?_
    split
    · exact .start ‹_›
    · exact .ignored _
  | release =>
    refine effect_of_whileReleased h ?_
    split
    · exact .ignored _
    · exact .release ‹_›
  | nudge =>
    refine effect_of_whileReleased h ?_
    split
    · exact .ignored _
    · exact .nudge
  | clear =>
    refine effect_of_whileReleased h ?_
    split
    case h_1 hengine =>
      split
      · exact .ignored _
      · rename_i hclear
        rw [Bool.not_eq_true] at hclear
        split
        · exact .clear (.inl ⟨hengine, hclear⟩)
        · exact .deferClear hengine hclear
    case h_2 hengine =>
      split
      · exact .ignored _
      · exact .clear (.inr hengine)
    case h_3 => exact .ignored _
  | softReset => exact effect_of_whileReleased h .softReset
  | flagsWrite value => exact effect_of_whileReleased h (.flags value)
  | maskWrite value => exact effect_of_whileReleased h (.mask value)
  | planbaseWrite value =>
    refine effect_of_whileReleased h ?_
    split
    · exact .planBase value
    · exact .ignored _
  | laneStop k =>
    refine effect_of_whileReleased h ?_
    split
    · exact .ignored _
    · exact .stop k ‹_›
  | laneResume k =>
    refine effect_of_whileReleased h ?_
    split
    · exact .resume k (And.left ‹_›)
    · exact .ignored _
  | ignoredRegisterWrite offset size value =>
    change execIgnoredRegisterWrite offset size value s = .next t at h
    unfold execIgnoredRegisterWrite at h
    split at h <;> cases h
    exact .ignored _
  | sampleEvent i => cases h; exact effect_of_sampleWork _ i s
  | stopCarriedOut _ i | releaseActedOn i | cycleStart i | restart i | applicationEnd _ i | gapEnd _ i
  | flickerChange _ i | softstartComplete i | releaseRampComplete i | relayOperationComplete _ i | enterSoftstart i
  | enterRunning i | released i | deferredClear i | trip i | measLost i | cycleSummary i | recovered _ i
  | notRecovered _ i | markerPulseDue i | markerCountdownEnd i | busWaitExpiry i => exact effect_of_sampleRow h
  | measurementFrame frame => exact effect_of_whileReleased h (.receive frame)
  | arbiterGrant => exact effect_of_whileReleased h (effect_grant s)
  | loadComplete =>
    refine effect_of_whileReleased h (effect_onCompletion fun tr hkind => ?_)
    split at hkind
    · rename_i header word hk
      exact .load header word hk
    · cases hkind
  | scanComplete words =>
    refine effect_of_whileReleased h (effect_onCompletion fun tr hkind => ?_)
    split at hkind
    · rename_i hk
      exact .scan hk words
    · cases hkind
  | cueFetchComplete word =>
    refine effect_of_whileReleased h (effect_onCompletion fun tr hkind => ?_)
    split at hkind
    · rename_i k wanted hk
      exact .cue k wanted hk word
    · cases hkind
  | episodeFetchComplete words =>
    refine effect_of_whileReleased h (effect_onCompletion fun tr hkind => ?_)
    split at hkind
    · rename_i k n wanted hk
      exact .episode k n wanted hk words
    · cases hkind
  | shapeCountReadComplete word =>
    refine effect_of_whileReleased h (effect_onCompletion fun tr hkind => ?_)
    split at hkind
    · rename_i k ep wanted hk
      exact .shapeCount k ep wanted hk word
    · cases hkind
  | shapeComponentReadComplete words =>
    refine effect_of_whileReleased h (effect_onCompletion fun tr hkind => ?_)
    split at hkind
    · rename_i k ep count wanted hk
      exact .shapeComponents k ep count wanted hk words
    · cases hkind
  | takenCountWriteBackComplete =>
    refine effect_of_whileReleased h (effect_onCompletion fun tr hkind => ?_)
    split at hkind
    · rename_i k value hk
      exact .taken k value hk
    · cases hkind
  | journalRecordWriteComplete =>
    refine effect_of_whileReleased h (effect_onCompletion fun tr hkind => ?_)
    split at hkind
    · rename_i dropsTaken hk
      exact .record dropsTaken hk
    · cases hkind
  | writtenCountWriteComplete =>
    refine effect_of_whileReleased h (effect_onCompletion fun tr hkind => ?_)
    split at hkind
    · exact .count (.inl ‹_›)
    · exact .count (.inr ‹_›)
    · cases hkind
  | busErrorResponse => exact effect_of_whileReleased h (effect_failNow s)
  | rstHeldLow => cases h; exact .heldLow
  | runSettingsReadComplete data =>
    refine effect_of_whileReleased h (effect_onCompletion fun tr hkind => ?_)
    unfold BusKind.isLoadRead at hkind
    split at hkind
    · rename_i words hk
      exact .loadHeader hk words
    · rename_i header word hk
      exact .loadReadCount header hk word
    · cases hkind

/-- A step that goes on idles on an empty queue, or runs its front command. -/
theorem step_cases {s t : State} (h : step s = .next t) :
    t = s ∨ ∃ c rest, s.pending = c :: rest ∧ exec c { s with pending := rest } = .next t := by
  unfold step at h
  split at h
  · cases h; exact .inl rfl
  · exact .inr ⟨_, _, ‹_›, h⟩

/-- Settles O1: the queue's front is what `step` matches on. -/
theorem stepRunsTheFrontCommand : Obligations.StepRunsTheFrontCommand := by
  intro c rest s
  rfl

end Sys2Proof.Machine
end

section
/-! ### What every command leaves alone, and what it always answers

The lane work that the completions of a lane's reads hand on, the frames of the arbiter's turns and of a sample event,
and from these the queue of commands, the taken counts, and the answers of well-formed commands and of RST held low. -/

namespace Sys2Proof.Machine

/-! #### The lane work of a completed read -/

/-- The lane work that a completed read of a lane can hand on, with every episode it brings in satisfying `P`: the next
read, a refusal, or the loaded episode (R38, R39, R43). -/
inductive LaneLoad (P : Episode → Prop) : (LaneEnv → Lane → LaneOut) → Prop
  | request (f : Fetch) (hf : ∀ ep ∈ f.episodes, P ep) : LaneLoad P fun _ l => { lane := { l with request := some f } }
  | refuse (cause : Refused) (offending index : Half) : LaneLoad P fun e l => refuse e cause offending index l
  | complete (ep : Episode) (hep : P ep) : LaneLoad P fun e l => completeEpisode e ep l

/-- The port once a cue entry of lane k has come (R8, R10). -/
def Port.consumed (p : Port) (k : LaneId) : Port :=
  { p with
    taken := setLane p.taken k (getLane p.taken k + 1)
    takenOwed := setLane p.takenOwed k true
    takenRequest := setLane p.takenRequest k (getLane p.takenRequest k || !getLane p.takenOwed k) }

theorem cueDone_unwanted (s : State) (k : LaneId) (word : Word) :
    s.cueDone k false word = { s with port := s.port.consumed k }.runLane k cueTest := rfl

theorem cueDone_wanted (s : State) (k : LaneId) (word : Word) (P : Episode → Prop) :
    ∃ g, LaneLoad P g ∧ s.cueDone k true word = { s with port := s.port.consumed k }.runLane k g := by
  unfold State.cueDone
  dsimp only
  rw [if_pos rfl]
  split
  · exact ⟨_, .request (.episode (u16 [word] 0)) (by simp [Fetch.episodes]), rfl⟩
  · exact ⟨_, .refuse _ _ _, rfl⟩

section
variable {P : Episode → Prop}

theorem episodeDone_unwanted (s : State) (k : LaneId) (n : Nat) (words : List Word) :
    s.episodeDone k false n words = s := rfl

theorem episodeDone_wanted (s : State) (k : LaneId) (n : Nat) (words : List Word)
    (hP : ∀ ep, validateRecord s.control.mode s.port.episodeCount s.port.shapeCount n words = .ok ep → P ep) :
    ∃ g, LaneLoad P g ∧ s.episodeDone k true n words = s.runLane k g := by
  unfold State.episodeDone
  rw [if_pos rfl]
  split
  · exact ⟨_, .refuse _ _ _, rfl⟩
  · rename_i ep hvalid
    split
    · exact ⟨_, .request (.shapeCount ep) (by simpa [Fetch.episodes] using hP ep hvalid), rfl⟩
    · exact ⟨_, .complete ep (hP ep hvalid), rfl⟩

theorem shapeCountDone_unwanted (s : State) (k : LaneId) (ep : Episode) (word : Word) :
    s.shapeCountDone k false ep word = s := rfl

theorem shapeCountDone_wanted (s : State) (k : LaneId) (ep : Episode) (word : Word) (hP : P ep) :
    ∃ g, LaneLoad P g ∧ s.shapeCountDone k true ep word = s.runLane k g := by
  unfold State.shapeCountDone
  dsimp only
  rw [if_pos rfl]
  split
  · exact ⟨_, .request (.shapeComponents ep _) (by simpa [Fetch.episodes] using hP), rfl⟩
  · exact ⟨_, .refuse _ _ _, rfl⟩

theorem shapeComponentsDone_unwanted (s : State) (k : LaneId) (ep : Episode) (count : Nat) (words : List Word) :
    s.shapeComponentsDone k false ep count words = s := rfl

theorem shapeComponentsDone_wanted (s : State) (k : LaneId) (ep : Episode) (count : Nat) (words : List Word)
    (hP : ∀ components clamped, P { ep with components := components, clamped := clamped }) :
    ∃ g, LaneLoad P g ∧ s.shapeComponentsDone k true ep count words = s.runLane k g := by
  unfold State.shapeComponentsDone
  rw [if_pos rfl]
  split
  · exact ⟨_, .complete _ (hP _ _), rfl⟩
  · exact ⟨_, .refuse _ _ _, rfl⟩

end

/-! #### Frames -/

/-- The fields that no completion of a lane's read and no grant of a lane's fetch touches. -/
structure State.SameBlocks (s t : State) : Prop where
  rstLow : t.rstLow = s.rstLow
  control : t.control = s.control
  composer : t.composer = s.composer
  timebase : t.timebase = s.timebase
  synth : t.synth = s.synth
  link : t.link = s.link
  relays : t.relays = s.relays
  measure : t.measure = s.measure
  pending : t.pending = s.pending
  planBase : t.port.planBase = s.port.planBase

theorem State.SameBlocks.refl (s : State) : s.SameBlocks s := ⟨rfl, rfl, rfl, rfl, rfl, rfl, rfl, rfl, rfl, rfl⟩

theorem sameBlocks_runLane (s : State) (k : LaneId) (f : LaneEnv → Lane → LaneOut) : s.SameBlocks (s.runLane k f) :=
  ⟨rfl, rfl, rfl, rfl, rfl, rfl, rfl, rfl, rfl, rfl⟩

theorem sameBlocks_cueTests (s : State) : s.SameBlocks s.cueTests := by
  constructor <;> simp

theorem sameBlocks_grantFetch (s : State) (k : LaneId) (f : Fetch) : s.SameBlocks (s.grantFetch k f) := by
  unfold State.grantFetch
  cases f with
  | cue =>
    dsimp only
    split
    · exact ⟨rfl, rfl, rfl, rfl, rfl, rfl, rfl, rfl, rfl, rfl⟩
    · split
      · exact ⟨rfl, rfl, rfl, rfl, rfl, rfl, rfl, rfl, rfl, rfl⟩
      · exact sameBlocks_runLane s k _
  | episode n => exact ⟨rfl, rfl, rfl, rfl, rfl, rfl, rfl, rfl, rfl, rfl⟩
  | shapeCount ep => exact ⟨rfl, rfl, rfl, rfl, rfl, rfl, rfl, rfl, rfl, rfl⟩
  | shapeComponents ep count => exact ⟨rfl, rfl, rfl, rfl, rfl, rfl, rfl, rfl, rfl, rfl⟩

theorem sameBlocks_grantJournal (s : State) (head : Record) (rest : List Record) :
    s.SameBlocks (s.grantJournal head rest) := by
  unfold State.grantJournal
  split <;> exact ⟨rfl, rfl, rfl, rfl, rfl, rfl, rfl, rfl, rfl, rfl⟩

/-- The arbiter's turn changes the lanes, the journal, the window and the slot's port alone (R16). -/
theorem sameBlocks_granted {s t : State} (h : Granted s t) : s.SameBlocks t := by
  cases h with
  | idle => exact .refl s
  | load => exact ⟨rfl, rfl, rfl, rfl, rfl, rfl, rfl, rfl, rfl, rfl⟩
  | journal head rest => exact sameBlocks_grantJournal s head rest
  | fetch k f => exact sameBlocks_grantFetch s k f
  | taken => exact ⟨rfl, rfl, rfl, rfl, rfl, rfl, rfl, rfl, rfl, rfl⟩
  | written => exact ⟨rfl, rfl, rfl, rfl, rfl, rfl, rfl, rfl, rfl, rfl⟩
  | scan => exact ⟨rfl, rfl, rfl, rfl, rfl, rfl, rfl, rfl, rfl, rfl⟩

theorem sameBlocks_cueDone (s : State) (k : LaneId) (wanted : Bool) (word : Word) :
    s.SameBlocks (s.cueDone k wanted word) := by
  cases wanted with
  | false => exact ⟨rfl, rfl, rfl, rfl, rfl, rfl, rfl, rfl, rfl, rfl⟩
  | true =>
    obtain ⟨g, -, hg⟩ := cueDone_wanted s k word fun _ => True
    rw [hg]
    exact ⟨rfl, rfl, rfl, rfl, rfl, rfl, rfl, rfl, rfl, rfl⟩

theorem sameBlocks_episodeDone (s : State) (k : LaneId) (n : Nat) (wanted : Bool) (words : List Word) :
    s.SameBlocks (s.episodeDone k wanted n words) ∧ (s.episodeDone k wanted n words).port = s.port := by
  cases wanted with
  | false => exact ⟨.refl s, rfl⟩
  | true =>
    obtain ⟨g, -, hg⟩ := episodeDone_wanted (P := fun _ => True) s k n words fun _ _ => trivial
    rw [hg]
    exact ⟨sameBlocks_runLane s k g, rfl⟩

theorem sameBlocks_shapeCountDone (s : State) (k : LaneId) (ep : Episode) (wanted : Bool) (word : Word) :
    s.SameBlocks (s.shapeCountDone k wanted ep word) ∧ (s.shapeCountDone k wanted ep word).port = s.port := by
  cases wanted with
  | false => exact ⟨.refl s, rfl⟩
  | true =>
    obtain ⟨g, -, hg⟩ := shapeCountDone_wanted (P := fun _ => True) s k ep word trivial
    rw [hg]
    exact ⟨sameBlocks_runLane s k g, rfl⟩

theorem sameBlocks_shapeComponentsDone (s : State) (k : LaneId) (ep : Episode) (count : Nat) (wanted : Bool)
    (words : List Word) :
    s.SameBlocks (s.shapeComponentsDone k wanted ep count words) ∧
      (s.shapeComponentsDone k wanted ep count words).port = s.port := by
  cases wanted with
  | false => exact ⟨.refl s, rfl⟩
  | true =>
    obtain ⟨g, -, hg⟩ := shapeComponentsDone_wanted (P := fun _ => True) s k ep count words fun _ _ => trivial
    rw [hg]
    exact ⟨sameBlocks_runLane s k g, rfl⟩

/-- A completion latches the settings of a load, or leaves the blocks that no bus read touches (R4 to R13). -/
theorem completed_cases {s t : State} {tr : Transaction} {c : Instr} (hdone : Completed s tr c t) :
    (∃ header word, tr.kind = .loadWriteCount header word ∧ t = s.loadDone header.toList word) ∨ s.SameBlocks t := by
  cases hdone with
  | load header word hk => exact .inl ⟨header, word, hk, rfl⟩
  | loadHeader | loadReadCount | taken | record | count =>
    exact .inr ⟨rfl, rfl, rfl, rfl, rfl, rfl, rfl, rfl, rfl, rfl⟩
  | scan _ words =>
    obtain ⟨hrst, hcontrol, hcomposer, htimebase, hsynth, hlink, hrelays, hmeasure, hpending, hbase⟩ :=
      sameBlocks_cueTests { s with
        port := { s.port with
          posted := ⟨words[0], words[1], words[2], words[3], words[4], words[5]⟩
          readCount := words[6] }.judgeFill.requestOwed }
    exact .inr ⟨hrst, hcontrol, hcomposer, htimebase, hsynth, hlink, hrelays, hmeasure, hpending, hbase⟩
  | cue k wanted _ word => exact .inr (sameBlocks_cueDone s k wanted word)
  | episode k n wanted _ words => exact .inr (sameBlocks_episodeDone s k n wanted words.toList).1
  | shapeCount k ep wanted _ word => exact .inr (sameBlocks_shapeCountDone s k ep wanted word).1
  | shapeComponents k ep count wanted _ words =>
    exact .inr (sameBlocks_shapeComponentsDone s k ep count wanted words.toList).1

@[simp] theorem failNow_pending (s : State) : s.failNow.pending = s.pending := State.fail_pending s

/-- A failure leaves the port's counts of cue entries and its base as they are (R15). -/
theorem fail_port (s : State) :
    s.fail.state.port.taken = s.port.taken ∧ s.fail.state.port.planBase = s.port.planBase := by
  unfold State.fail State.failed State.fetchFailed State.loadFailed
  repeat' (first | exact ⟨rfl, rfl⟩ | split)

theorem expire_port (w : Work) (now : Bool) :
    (w.expire now).state.port.taken = w.state.port.taken ∧
      (w.expire now).state.port.planBase = w.state.port.planBase := by
  unfold Work.expire
  split
  · exact fail_port w.state
  · exact ⟨rfl, rfl⟩

theorem requestScan_port (p : Port) : p.requestScan.taken = p.taken ∧ p.requestScan.planBase = p.planBase := by
  obtain h | ⟨h, -⟩ := Port.requestScan_spec p <;> rw [h] <;> exact ⟨rfl, rfl⟩

theorem cycleScan_taken (w : Work) :
    w.cycleScan.state.port.taken = w.state.port.taken ∧
      w.cycleScan.state.port.planBase = w.state.port.planBase := by
  rw [cycleScan_port]
  split
  · exact requestScan_port w.state.port
  · exact ⟨rfl, rfl⟩

theorem settle_port (i : SampleInputs) (w : Work) :
    (w.settle i).state.port.taken = w.state.port.taken ∧
      (w.settle i).state.port.planBase = w.state.port.planBase := by
  rw [Work.settle, Work.protect_port]
  simp only [cycleScan_taken, Work.measure_port, Work.sampleLines_port, Work.opening_port, Work.dropHead_port,
    expire_port]
  exact ⟨rfl, rfl⟩

theorem perform_port (i : SampleInputs) (w : Work) :
    (w.perform i).state.port = (((w.watches i).advanceRelays).lanes i).state.port := by
  simp only [Work.perform, Work.output_port, Work.commandRelays_port, Work.compose_port, Work.frequency_port]

/-- A sample event leaves the taken counts and the base as they are. -/
theorem sampleWork_port (i : SampleInputs) (s : State) :
    (sampleWork i s).state.port.taken = s.port.taken ∧ (sampleWork i s).state.port.planBase = s.port.planBase := by
  unfold sampleWork
  dsimp only
  split
  · exact ⟨rfl, rfl⟩
  · simp only [Work.close, Work.dropHead_port, Work.enqueue_port, expire_port, Work.report_port, perform_port]
    exact settle_port i { state := s }

theorem sampleWork_pending (i : SampleInputs) (s : State) : (sampleWork i s).state.pending = s.pending := by
  unfold sampleWork
  dsimp only
  split
  · rfl
  · simp [Work.close, Work.perform, Work.settle]

/-! #### The queue of commands and the taken counts -/

theorem granted_taken {s t : State} (h : Granted s t) : t.port.taken = s.port.taken := by
  cases h with
  | journal head rest => unfold State.grantJournal; split <;> rfl
  | fetch k f =>
    unfold State.grantFetch
    cases f with
    | cue =>
      dsimp only
      split
      · rfl
      · split <;> rfl
    | episode | shapeCount | shapeComponents => rfl
  | idle | load | taken | written | scan => rfl

theorem loadDone_port (s : State) (header : List Word) (readCount : Word) :
    (s.loadDone header readCount).port.taken = s.port.taken ∧
      (s.loadDone header readCount).port.planBase = s.port.planBase := requestScan_port _

/-- Settles O2: no effect touches the queue. -/
theorem commandsLeaveTheQueue : Obligations.CommandsLeaveTheQueue := by
  intro c s t h
  cases effect_of_exec h with
  | ignored | powerOn | softReset | heldLow | start | release | nudge | clear | deferClear | flags | mask | planBase
  | stop | resume | receive | disowned => rfl
  | sample _ i => exact sampleWork_pending i s
  | grant _ hgrant => exact (sameBlocks_granted hgrant).pending
  | failed => exact failNow_pending s
  | completed tr hslot horphan hdone =>
    cases hdone with
    | loadHeader | loadReadCount | load | taken | record | count => rfl
    | scan => exact State.scanDone_pending _ _
    | cue k wanted _ word => exact (sameBlocks_cueDone _ k wanted word).pending
    | episode k n wanted _ words => exact (sameBlocks_episodeDone _ k n wanted words.toList).1.pending
    | shapeCount k ep wanted _ word => exact (sameBlocks_shapeCountDone _ k ep wanted word).1.pending
    | shapeComponents k ep count wanted _ words =>
      exact (sameBlocks_shapeComponentsDone _ k ep count wanted words.toList).1.pending

/-- Settles O4: of all effects the resets and the completed cue fetch alone move a taken count. -/
theorem takenCountsMoveAtCueFetches : Obligations.TakenCountsMoveAtCueFetches := by
  intro c s t h hmoved
  cases effect_of_exec h with
  | powerOn mode1 mode0 => exact .inl ⟨mode1, mode0, rfl⟩
  | softReset => exact .inr (.inl rfl)
  | ignored | heldLow | start | release | clear | deferClear | flags | mask | planBase | stop | resume | receive
  | disowned => exact absurd rfl hmoved
  | nudge => exact absurd (requestScan_port s.port).1 hmoved
  | sample _ i => exact absurd (sampleWork_port i s).1 hmoved
  | grant _ hgrant => exact absurd (granted_taken hgrant) hmoved
  | failed => exact absurd (fail_port s).1 hmoved
  | completed tr hslot horphan hdone =>
    cases hdone with
    | cue k wanted _ word => exact .inr (.inr ⟨word, rfl⟩)
    | loadHeader | loadReadCount | taken | record | count => exact absurd rfl hmoved
    | load header word => exact absurd (loadDone_port s.freeSlot header.toList word).1 hmoved
    | scan _ words =>
      exact absurd (by simp only [State.scanDone, State.cueTests_port]; rfl) hmoved
    | episode k n wanted _ words =>
      exact absurd (by rw [(sameBlocks_episodeDone _ k n wanted words.toList).2]; rfl) hmoved
    | shapeCount k ep wanted _ word =>
      exact absurd (by rw [(sameBlocks_shapeCountDone _ k ep wanted word).2]; rfl) hmoved
    | shapeComponents k ep count wanted _ words =>
      exact absurd (by rw [(sameBlocks_shapeComponentsDone _ k ep count wanted words.toList).2]; rfl) hmoved

/-! #### Completion, and RST held low -/

theorem whileReleased_next (s t : State) : ∃ u, whileReleased s t = .next u := by
  unfold whileReleased
  split <;> exact ⟨_, rfl⟩

theorem sampleRow_next (what : Happening) (i : SampleInputs) (s : State) : ∃ t, sampleRow what i s = .next t := by
  unfold sampleRow
  dsimp only
  split <;> exact ⟨_, rfl⟩

/-- A write that an event of the part spells as ignored is one (R170). -/
theorem exec_ignoredRegisterWrite {offset size : Nat} (h : ignoredWrite offset size = true) (value : Word) (s : State) :
    exec (.ignoredRegisterWrite offset size value) s = .next s := by
  refine if_pos ?_
  simp only [ignoredWrite, reservedOffset, Bool.and_eq_true, Bool.or_eq_true, decide_eq_true_eq, beq_iff_eq] at h ⊢
  omega

/-- Settles O3: every arm answers a next state but the refusal of IGNORED_REGISTER_WRITE, which a well-formed one does
not reach. -/
theorem wellFormedCommandsComplete : Obligations.WellFormedCommandsComplete := by
  constructor
  · intro c s hwf
    cases c with
    | powerOnReset | sampleEvent | rstHeldLow => exact ⟨_, rfl⟩
    | start | release | nudge | clear | softReset | flagsWrite | maskWrite | planbaseWrite | laneStop | laneResume
    | measurementFrame | arbiterGrant | loadComplete | scanComplete | cueFetchComplete | episodeFetchComplete
    | shapeCountReadComplete | shapeComponentReadComplete | takenCountWriteBackComplete | journalRecordWriteComplete
    | writtenCountWriteComplete | busErrorResponse | runSettingsReadComplete => exact whileReleased_next s _
    | stopCarriedOut | releaseActedOn | cycleStart | restart | applicationEnd | gapEnd | flickerChange
    | softstartComplete | releaseRampComplete | relayOperationComplete | enterSoftstart | enterRunning | released
    | deferredClear | trip | measLost | cycleSummary | recovered | notRecovered | markerPulseDue | markerCountdownEnd
    | busWaitExpiry => exact sampleRow_next _ _ s
    | ignoredRegisterWrite offset size value => exact ⟨s, exec_ignoredRegisterWrite hwf value s⟩
  · intro offset value s hident hstat hreserved
    refine if_neg ?_
    simp only [reservedOffset, Bool.and_eq_true, decide_eq_true_eq]
    omega

theorem whileReleased_of_low {s : State} (h : s.rstLow = true) (t : State) : whileReleased s t = .next s := if_pos h

theorem sampleWork_of_low (i : SampleInputs) {s : State} (h : s.rstLow = true) : (sampleWork i s).state = s := by
  rw [sampleWork, h]
  rfl

theorem sampleRow_of_low (what : Happening) (i : SampleInputs) {s : State} (h : s.rstLow = true) :
    sampleRow what i s = .next s := by
  unfold sampleRow
  dsimp only
  rw [sampleWork_of_low i h, ite_self]

theorem heldLow_outputs (s : State) (x : Phase) : getPhase s.heldLow.relayOutputs x = false := by
  rw [State.relayOutputs, getPhase_tabPhase]
  rfl

/-- Settles O7: what RST_HELD_LOW sets by its definition, and no other command's effect while it is low. -/
theorem rstHeldLowSilencesThePart : Obligations.RstHeldLowSilencesThePart := by
  constructor
  · intro s
    exact ⟨s.heldLow, rfl, rfl, heldLow_outputs s, rfl, rfl, rfl, rfl, rfl, rfl, fun _ => rfl, rfl, rfl, rfl, rfl,
      rfl, rfl, rfl, rfl, rfl⟩
  · intro c s hlow hwf hreset hheld
    cases c with
    | powerOnReset mode1 mode0 => exact absurd rfl (hreset mode1 mode0)
    | rstHeldLow => exact absurd rfl hheld
    | sampleEvent i => exact congrArg Host.Outcome.next (sampleWork_of_low i hlow)
    | start | release | nudge | clear | softReset | flagsWrite | maskWrite | planbaseWrite | laneStop | laneResume
    | measurementFrame | arbiterGrant | loadComplete | scanComplete | cueFetchComplete | episodeFetchComplete
    | shapeCountReadComplete | shapeComponentReadComplete | takenCountWriteBackComplete | journalRecordWriteComplete
    | writtenCountWriteComplete | busErrorResponse | runSettingsReadComplete => exact whileReleased_of_low hlow _
    | stopCarriedOut | releaseActedOn | cycleStart | restart | applicationEnd | gapEnd | flickerChange
    | softstartComplete | releaseRampComplete | relayOperationComplete | enterSoftstart | enterRunning | released
    | deferredClear | trip | measLost | cycleSummary | recovered | notRecovered | markerPulseDue | markerCountdownEnd
    | busWaitExpiry => exact sampleRow_of_low _ _ hlow
    | ignoredRegisterWrite offset size value => exact exec_ignoredRegisterWrite hwf value s

end Sys2Proof.Machine
end

section
/-! ### The journal, the window and the base (R1, R165, R167, R173, R174)

Posting on a whole list, what keeps a journal and a window in order, and that every command keeps the books. -/

namespace Sys2Proof.Machine

/-! #### The journal -/

/-- At most 8 records wait, and the drop count is within its top (R165, R167). -/
def Journal.InOrder (j : Journal) : Prop := j.queue.length ≤ 8 ∧ j.drops ≤ 4294967295

/-- Posting one record cuts the queue to its earliest 8 and counts what does not fit. -/
theorem Journal.post_take {j : Journal} (h : j.InOrder) (r : Record) :
    (j.post r).queue = (j.queue ++ [r]).take 8 ∧
      (j.post r).drops = min (j.drops + (j.queue.length + 1 - 8)) 4294967295 := by
  obtain ⟨hlength, hdrops⟩ := h
  by_cases hroom : j.queue.length < 8
  · rw [(Journal.post_spec j r).1 hroom]
    refine ⟨(List.take_of_length_le ?_).symm, ?_⟩
    · rw [List.length_append, List.length_singleton]; omega
    · dsimp only; omega
  · rw [(Journal.post_spec j r).2 (by omega)]
    refine ⟨?_, ?_⟩
    · rw [List.take_append_of_le_length (by omega), List.take_of_length_le hlength]
    · dsimp only; omega

theorem Journal.inOrder_post {j : Journal} (h : j.InOrder) (r : Record) : (j.post r).InOrder := by
  obtain ⟨hqueue, hdrops⟩ := Journal.post_take h r
  exact ⟨by rw [hqueue]; exact List.length_take_le 8 _, by rw [hdrops]; exact min_le_right _ _⟩

/-- Settles O51, by induction on the list posted. -/
theorem postingKeepsTheEarliestEight : Obligations.PostingKeepsTheEarliestEight := by
  intro j rs
  induction rs generalizing j with
  | nil =>
    intro hlength hdrops
    rw [Journal.postAll_nil, List.append_nil, List.take_of_length_le hlength, List.length_nil]
    exact ⟨rfl, by omega⟩
  | cons r rs ih =>
    intro hlength hdrops
    obtain ⟨hqueue, hcount⟩ := Journal.post_take ⟨hlength, hdrops⟩ r
    obtain ⟨hlength', hdrops'⟩ := Journal.inOrder_post ⟨hlength, hdrops⟩ r
    obtain ⟨ihqueue, ihdrops⟩ := ih (j.post r) hlength' hdrops'
    have hposted : (j.post r).queue.length = min 8 (j.queue.length + 1) := by
      rw [hqueue, List.length_take, List.length_append, List.length_singleton]
    rw [Journal.postAll_cons]
    constructor
    · rw [ihqueue, hqueue, List.take_append, List.take_take, min_self, List.append_cons j.queue r rs,
        List.take_append (l₁ := j.queue ++ [r])]
      simp only [List.length_take, List.length_append, List.length_singleton]
      congr 2
      omega
    · rw [ihdrops, hcount, hposted, List.length_cons]
      omega

theorem Journal.inOrder_postAll {j : Journal} (h : j.InOrder) (rs : List Record) : (j.postAll rs).InOrder := by
  obtain ⟨hqueue, hdrops⟩ := postingKeepsTheEarliestEight j rs h.1 h.2
  exact ⟨by rw [hqueue]; exact List.length_take_le 8 _, by rw [hdrops]; exact min_le_right _ _⟩

theorem addDrop_le (n : Nat) : addDrop n ≤ 4294967295 := min_le_right _ _

theorem Journal.inOrder_dropHead {j : Journal} (h : j.InOrder) : j.dropHead.InOrder := by
  refine ⟨?_, addDrop_le j.drops⟩
  have hlength := h.1
  change j.queue.tail.length ≤ 8
  rw [List.length_tail]
  omega

/-! #### The window -/

/-- FLAGS and MASK hold their listed bits alone, and each line follows its condition (R173, R174). -/
structure Window.InOrder (w : Window) : Prop where
  flags : w.flags.toNat < 64
  mask : w.mask &&& 0xFFFFC0C0#32 = 0
  alert : w.alert = alertCondition w.flags w.mask
  notice : w.notice = noticeCondition w.flags w.mask

/-- Driving the lines from listed bits leaves the window in order. -/
theorem Window.inOrder_drive {flags mask : Word} (hflags : flags.toNat < 64) (hmask : mask &&& 0xFFFFC0C0#32 = 0) :
    (Window.drive flags mask).InOrder := ⟨hflags, hmask, rfl, rfl⟩

theorem flagWord_lt (f : Flag) : (flagWord f).toNat < 64 := by cases f <;> decide

theorem Window.inOrder_setFlag {w : Window} (h : w.InOrder) (f : Flag) : (w.setFlag f).InOrder := by
  refine Window.inOrder_drive ?_ h.mask
  rw [BitVec.toNat_or]
  exact Nat.or_lt_two_pow (n := 6) h.flags (flagWord_lt f)

theorem Window.inOrder_setFlagIf {w : Window} (h : w.InOrder) (b : Bool) (f : Flag) : (w.setFlagIf b f).InOrder := by
  cases b with
  | true => exact Window.inOrder_setFlag h f
  | false => exact h

theorem Window.inOrder_writeFlags {w : Window} (h : w.InOrder) (value : Word) : (w.writeFlags value).InOrder := by
  refine Window.inOrder_drive ?_ h.mask
  rw [BitVec.toNat_and]
  exact lt_of_le_of_lt Nat.and_le_left h.flags

theorem Window.inOrder_writeMask {w : Window} (h : w.InOrder) (value : Word) : (w.writeMask value).InOrder := by
  refine Window.inOrder_drive h.flags ?_
  rw [BitVec.and_assoc]
  exact BitVec.and_zero

/-! #### The books of the part -/

/-- The books of a part with RST high, block by block. -/
structure State.Books (s : State) : Prop where
  journal : s.journal.InOrder
  window : s.window.InOrder
  base : s.port.planBase.toNat % 4096 = 0

theorem State.booksInOrder_iff {s : State} (h : s.rstLow = false) : s.BooksInOrder ↔ s.Books :=
  ⟨fun hb => ⟨⟨hb.queue, hb.drops⟩, ⟨hb.flags, hb.mask, hb.alert h, hb.notice h⟩, hb.base⟩,
    fun hb => ⟨hb.journal.1, hb.journal.2, hb.window.flags, hb.window.mask, hb.base, fun _ => hb.window.alert,
      fun _ => hb.window.notice⟩⟩

/-- In the books nothing but the journal, the window and the base counts. -/
theorem State.Books.inOrder {s : State} (h : s.Books) : s.BooksInOrder :=
  ⟨h.journal.1, h.journal.2, h.window.flags, h.window.mask, h.base, fun _ => h.window.alert, fun _ => h.window.notice⟩

theorem State.books_powerOn (mode : BitVec 2) (pending : List Instr) : (State.powerOn mode pending).Books :=
  ⟨⟨Nat.zero_le _, Nat.zero_le _⟩, Window.inOrder_drive (flags := 0) (mask := 0) (by decide) (by decide), rfl⟩

theorem planBaseOf_mod (value : Word) : (planBaseOf value).toNat % 4096 = 0 := by
  have h : planBaseOf value &&& 0xFFF#32 = 0#32 := by
    rw [planBaseOf, BitVec.and_assoc]
    exact BitVec.and_zero
  have hnat := congrArg BitVec.toNat h
  rw [BitVec.toNat_and] at hnat
  exact (Nat.and_two_pow_sub_one_eq_mod _ 12).symm.trans hnat

theorem State.books_runLane {s : State} (h : s.Books) (k : LaneId) (f : LaneEnv → Lane → LaneOut) :
    (s.runLane k f).Books :=
  ⟨Journal.inOrder_postAll h.journal _, Window.inOrder_setFlagIf h.window _ _, h.base⟩

theorem State.books_cueTests {s : State} (h : s.Books) : s.cueTests.Books := by
  unfold State.cueTests
  induction allLanes generalizing s with
  | nil => exact h
  | cons k rest ih => exact ih (State.books_runLane h k cueTest)

theorem State.books_granted {s t : State} (h : s.Books) (hgrant : Granted s t) : t.Books := by
  cases hgrant with
  | idle => exact h
  | load | taken | written | scan => exact ⟨h.journal, h.window, h.base⟩
  | journal head rest hqueue =>
    obtain ⟨hlength, hdrops⟩ := h.journal
    rw [hqueue, List.length_cons] at hlength
    unfold State.grantJournal
    split
    · exact ⟨⟨Nat.le_of_succ_le hlength, addDrop_le _⟩, h.window, h.base⟩
    · exact ⟨⟨hlength, hdrops⟩, h.window, h.base⟩
  | fetch k f =>
    unfold State.grantFetch
    cases f with
    | cue =>
      dsimp only
      split
      · exact ⟨h.journal, h.window, h.base⟩
      · split
        · exact ⟨h.journal, h.window, h.base⟩
        · exact State.books_runLane h k _
    | episode | shapeCount | shapeComponents => exact ⟨h.journal, h.window, h.base⟩

theorem State.books_loadDone {s : State} (h : s.Books) (header : List Word) (readCount : Word) :
    (s.loadDone header readCount).Books := by
  refine ⟨Journal.inOrder_post h.journal _, Window.inOrder_setFlagIf h.window _ _, ?_⟩
  rw [(loadDone_port s header readCount).2]
  exact h.base

theorem State.books_completed {s t : State} {tr : Transaction} {c : Instr} (h : s.Books)
    (hdone : Completed s tr c t) : t.Books := by
  cases hdone with
  | loadHeader | loadReadCount | taken => exact ⟨h.journal, h.window, h.base⟩
  | load header word => exact State.books_loadDone h header.toList word
  | scan _ words => exact State.books_cueTests ⟨h.journal, h.window, h.base⟩
  | cue k wanted _ word =>
    have hconsumed : ({ s with port := s.port.consumed k } : State).Books := ⟨h.journal, h.window, h.base⟩
    cases wanted with
    | false => exact State.books_runLane hconsumed k cueTest
    | true =>
      obtain ⟨g, -, hg⟩ := cueDone_wanted s k word fun _ => True
      rw [hg]
      exact State.books_runLane hconsumed k g
  | episode k n wanted _ words =>
    cases wanted with
    | false => exact h
    | true =>
      obtain ⟨g, -, hg⟩ := episodeDone_wanted (P := fun _ => True) s k n words.toList fun _ _ => trivial
      rw [hg]
      exact State.books_runLane h k g
  | shapeCount k ep wanted _ word =>
    cases wanted with
    | false => exact h
    | true =>
      obtain ⟨g, -, hg⟩ := shapeCountDone_wanted (P := fun _ => True) s k ep word trivial
      rw [hg]
      exact State.books_runLane h k g
  | shapeComponents k ep count wanted _ words =>
    cases wanted with
    | false => exact h
    | true =>
      obtain ⟨g, -, hg⟩ := shapeComponentsDone_wanted (P := fun _ => True) s k ep count words.toList fun _ _ => trivial
      rw [hg]
      exact State.books_runLane h k g
  | record dropsTaken =>
    obtain ⟨hlength, hdrops⟩ := h.journal
    refine ⟨⟨?_, ?_⟩, h.window, h.base⟩
    · change s.journal.queue.tail.length ≤ 8
      rw [List.length_tail]
      omega
    · change s.journal.drops - dropsTaken ≤ 4294967295
      omega
  | count => exact ⟨h.journal, Window.inOrder_setFlag h.window _, h.base⟩

/-- A failure sets flags, and touches neither the journal nor the base (R15). -/
theorem State.books_fail {s : State} (h : s.Books) : s.fail.state.Books := by
  refine ⟨by rw [State.fail_journal]; exact h.journal, ?_, by rw [(fail_port s).2]; exact h.base⟩
  have hbus : (s.freeSlot.setFlag .bus).window.InOrder := Window.inOrder_setFlag h.window .bus
  unfold State.fail
  split
  · exact h.window
  · split
    · exact h.window
    · unfold State.failed
      split
      case h_1 | h_2 | h_3 => exact Window.inOrder_setFlag hbus .run
      case h_6 =>
        unfold State.fetchFailed
        split
        · exact Window.inOrder_setFlagIf hbus _ _
        · exact hbus
      all_goals exact hbus

theorem State.books_failNow {s : State} (h : s.Books) : s.failNow.Books := by
  have hfail := State.books_fail h
  refine ⟨Journal.inOrder_postAll ?_ _, hfail.window, hfail.base⟩
  split
  · exact Journal.inOrder_dropHead hfail.journal
  · exact hfail.journal

/-! #### The books at a sample event -/

section
variable {w : Work} (h : w.state.Books)
include h

theorem Work.books_expire (now : Bool) : (w.expire now).state.Books := by
  unfold Work.expire
  split
  · exact State.books_fail h
  · exact h

theorem Work.books_dropHead (now : Bool) : (w.dropHead now).state.Books := by
  unfold Work.dropHead
  split
  · exact ⟨Journal.inOrder_dropHead h.journal, h.window, h.base⟩
  · exact h

theorem Work.books_opening : w.opening.state.Books := by
  have hentered : w.enterProgress.state.Books := by
    unfold Work.enterProgress
    dsimp only
    split
    · exact h
    · exact ⟨h.journal, h.window, h.base⟩
    · exact ⟨h.journal, Window.inOrder_setFlag h.window .run, h.base⟩
    · exact ⟨h.journal, Window.inOrder_setFlag h.window .run, h.base⟩
  refine ⟨?_, ?_, ?_⟩
  · change w.enterProgress.actOnRelease.state.journal.InOrder
    rw [Work.actOnRelease_journal]; exact hentered.journal
  · change w.enterProgress.actOnRelease.state.window.InOrder
    rw [actOnRelease_window]; exact hentered.window
  · change w.enterProgress.actOnRelease.state.port.planBase.toNat % 4096 = 0
    rw [Work.actOnRelease_port]; exact hentered.base

theorem Work.books_sampleLines (i : SampleInputs) : (w.sampleLines i).state.Books :=
  ⟨h.journal, Window.inOrder_setFlagIf h.window _ _, h.base⟩

theorem Work.books_cycleScan : w.cycleScan.state.Books :=
  ⟨by rw [Work.cycleScan_journal]; exact h.journal, by rw [Work.cycleScan_window]; exact h.window,
    by rw [(cycleScan_taken w).2]; exact h.base⟩

theorem Work.books_protect (i : SampleInputs) : (w.protect i).state.Books := by
  refine ⟨by rw [Work.protect_journal]; exact h.journal, ?_, by rw [Work.protect_port]; exact h.base⟩
  unfold Work.protect
  dsimp only
  split
  · exact h.window
  all_goals exact Window.inOrder_setFlag h.window _

theorem Work.books_settle (i : SampleInputs) : (w.settle i).state.Books := by
  have hticked : w.tick.waitTimer.state.Books := ⟨h.journal, h.window, h.base⟩
  have hopened := Work.books_opening (Work.books_dropHead (Work.books_expire hticked i.expiryFirst) true)
  have hmeasured : ((((w.tick.waitTimer.expire i.expiryFirst).dropHead true).opening.sampleLines i).measure).state.Books :=
    have hlines := Work.books_sampleLines hopened i
    ⟨hlines.journal, hlines.window, hlines.base⟩
  exact Work.books_protect (Work.books_cycleScan hmeasured) i

theorem Work.books_perform (i : SampleInputs) : (w.perform i).state.Books := by
  have hlanes : ((w.watches i).advanceRelays.lanes i).state.Books :=
    ⟨h.journal, Window.inOrder_setFlagIf h.window _ _, h.base⟩
  refine ⟨?_, ?_, ?_⟩
  · simpa only [Work.perform, Work.output_journal, Work.commandRelays_journal, Work.compose_journal,
      Work.frequency_journal] using hlanes.journal
  · simpa only [Work.perform, Work.output_window, Work.commandRelays_window, Work.compose_window,
      Work.frequency_window] using hlanes.window
  · rw [perform_port]; exact hlanes.base

theorem Work.books_close (i : SampleInputs) : (w.close i).state.Books := by
  have hreport : w.report.state.Books := ⟨h.journal, h.window, h.base⟩
  have hexpired := Work.books_expire hreport (!i.expiryFirst)
  have hqueued : ((w.report).expire (!i.expiryFirst)).enqueue.state.Books :=
    ⟨Journal.inOrder_postAll hexpired.journal _, hexpired.window, hexpired.base⟩
  exact Work.books_dropHead hqueued true

end

theorem State.books_sampleWork (i : SampleInputs) {s : State} (hrst : s.rstLow = false) (h : s.Books) :
    (sampleWork i s).state.Books := by
  rw [sampleWork_eq i s hrst]
  exact Work.books_close (Work.books_perform (Work.books_settle (w := { state := s }) h i) i) i

/-- While RST is low a command does nothing, or is RST's own. -/
theorem exec_low_cases {s t : State} {c : Instr} (hlow : s.rstLow = true) (h : exec c s = .next t) :
    t = s ∨ (∃ mode1 mode0, t = State.powerOn (modeOfPins mode1 mode0) s.pending) ∨ t = s.heldLow := by
  have hheld := rstHeldLowSilencesThePart.2 c s hlow
  rw [h, Host.Outcome.next.injEq] at hheld
  cases c with
  | powerOnReset mode1 mode0 => cases h; exact .inr (.inl ⟨mode1, mode0, rfl⟩)
  | rstHeldLow => cases h; exact .inr (.inr rfl)
  | ignoredRegisterWrite offset size value =>
    change execIgnoredRegisterWrite offset size value s = .next t at h
    unfold execIgnoredRegisterWrite at h
    split at h <;> cases h
    exact .inl rfl
  | _ => exact .inl (hheld rfl nofun nofun)

/-- Every command keeps the books. The lines follow their conditions while RST is high, and RST held low leaves none
to follow. -/
theorem State.booksInOrder_exec {s t : State} {c : Instr} (h : s.BooksInOrder) (hexec : exec c s = .next t) :
    t.BooksInOrder := by
  cases hrst : s.rstLow with
  | false =>
    have hb := (State.booksInOrder_iff hrst).1 h
    cases effect_of_exec hexec with
    | ignored => exact h
    | powerOn mode1 mode0 => exact (State.books_powerOn _ _).inOrder
    | softReset =>
      have hreset := State.books_powerOn s.control.mode s.pending
      exact State.Books.inOrder ⟨hreset.journal, hreset.window, hreset.base⟩
    | heldLow => exact ⟨h.queue, h.drops, h.flags, h.mask, h.base, nofun, nofun⟩
    | start => exact State.Books.inOrder ⟨Journal.inOrder_post hb.journal _, hb.window, hb.base⟩
    | release | deferClear | stop | receive | disowned => exact State.Books.inOrder ⟨hb.journal, hb.window, hb.base⟩
    | nudge => exact State.Books.inOrder ⟨hb.journal, hb.window, by rw [(requestScan_port s.port).2]; exact hb.base⟩
    | clear =>
      exact State.Books.inOrder ⟨Journal.inOrder_post hb.journal _, Window.inOrder_setFlag hb.window _, hb.base⟩
    | flags value => exact State.Books.inOrder ⟨hb.journal, Window.inOrder_writeFlags hb.window value, hb.base⟩
    | mask value => exact State.Books.inOrder ⟨hb.journal, Window.inOrder_writeMask hb.window value, hb.base⟩
    | planBase value => exact State.Books.inOrder ⟨hb.journal, hb.window, planBaseOf_mod value⟩
    | resume k => exact (State.books_runLane hb k _).inOrder
    | sample _ i => exact (State.books_sampleWork i hrst hb).inOrder
    | grant _ hgrant => exact (State.books_granted hb hgrant).inOrder
    | completed tr _ _ hdone =>
      have hfreed : s.freeSlot.Books := ⟨hb.journal, hb.window, hb.base⟩
      exact (State.books_completed hfreed hdone).inOrder
    | failed => exact (State.books_failNow hb).inOrder
  | true =>
    obtain rfl | ⟨mode1, mode0, rfl⟩ | rfl := exec_low_cases hrst hexec
    · exact h
    · exact (State.books_powerOn _ _).inOrder
    · exact ⟨h.queue, h.drops, h.flags, h.mask, h.base, nofun, nofun⟩

/-- Settles O57. -/
theorem booksStayInOrder : Obligations.BooksStayInOrder := by
  intro s t h hstep
  obtain rfl | ⟨c, rest, -, hexec⟩ := step_cases hstep
  · exact h
  · exact State.booksInOrder_exec (s := { s with pending := rest })
      ⟨h.queue, h.drops, h.flags, h.mask, h.base, h.alert, h.notice⟩ hexec

end Sys2Proof.Machine
end

section
/-! ### The course of one lane at a sample event

The moves of which a lane's own work is made, each with what stands before it, and an induction over the rounds of
cascades. An invariant of a lane is proved over the moves and does not follow the work again. -/

namespace Sys2Proof.Machine

/-- A lane whose episode has just become current, its next slot still to fill (R46). -/
def Lane.awaiting (l : Lane) (ep : Episode) (late : Bool) : Lane :=
  { l with
    state := .waiting, stage := none, current := some ep, next := .empty, request := none, application := 0
    late := late, evaluationMark := false, evaluated := false }

/-- One move of a lane's own work at a sample event. -/
inductive LaneMove (e : SampleEnv) : Lane → Lane → Prop
  | cueTest (l : Lane) : LaneMove e l (cueTest e.toLaneEnv l).lane
  | idles {l : Lane} (hstate : l.state = .active) (hnext : l.next = .empty) :
      LaneMove e l { l with current := none, stage := none, state := .idle, late := false }
  | fetches {l : Lane} (hstate : l.state = .active) (hnext : l.next = .fetching) :
      LaneMove e l { l with current := none, stage := none, state := .fetching, next := .empty, late := true }
  | awaits {l : Lane} (ep : Episode) (hstate : l.state = .active) (hnext : l.next = .loaded ep) :
      LaneMove e l (l.awaiting ep false)
  | halts {l : Lane} (cause : Refused) (index : Half) (hstate : l.state = .active) (hnext : l.next = .refused cause index) :
      LaneMove e l { l with current := none, stage := none : Lane }.halted
  | requestsNext {l : Lane} (n : Nat) (hstate : l.state = .waiting) (hnext : l.next = .empty) :
      LaneMove e l { l with next := .fetching, request := some (.episode n) }
  | unstages (l : Lane) : LaneMove e l { l with stage := none }
  | waitsAgain {l : Lane} (hstate : l.state = .active ∨ l.state = .gap) :
      LaneMove e l { l with state := .waiting, evaluationMark := false, evaluated := false }
  | entersGap {l : Lane} (hstate : l.state = .active) : LaneMove e l { l with state := .gap, advance := 0 }
  | begins {l : Lane} (ep : Episode) (iref : Nat) (hstate : l.state = .waiting) (hengine : e.engine = .running) :
      LaneMove e l (l.begun ep (startValues ep e.lastComposed) iref)
  | stages {l : Lane} (ep : Episode) (stage : Stage) (p : Nat) (atTrigger : Bool) (hstate : l.state = .active)
      (hcurrent : l.current = some ep) (hstage : stageAt ep p = some stage) :
      LaneMove e l (l.inStage ep e.steady stage p atTrigger)
  | flickers (l : Lane) (depth interval : Nat) : LaneMove e l (l.flickerStep depth interval).lane
  | advances (l : Lane) : LaneMove e l (l.advanced e.advance)
  | marks (l : Lane) (mark evaluated : Bool) : LaneMove e l { l with evaluationMark := mark, evaluated := evaluated }

/-- The lane has come from one state to another by moves of its own work. -/
abbrev LaneMoves (e : SampleEnv) : Lane → Lane → Prop := Relation.ReflTransGen (LaneMove e)

/-- What every move keeps, the moves keep. -/
theorem LaneMoves.keeps {e : SampleEnv} {Q : Lane → Prop} (hmove : ∀ l m, LaneMove e l m → Q l → Q m) {l m : Lane}
    (h : LaneMoves e l m) (hl : Q l) : Q m := by
  induction h with
  | refl => exact hl
  | tail _ hlast ih => exact hmove _ _ hlast ih

section
variable (e : SampleEnv)

theorem becomeCurrent_eq (e : LaneEnv) (late : Bool) (ep : Episode) (l : Lane) :
    becomeCurrent e late ep l =
      match ep.next with
      | some n => { lane := { l.awaiting ep late with next := .fetching, request := some (.episode n) } }
      | none => cueTest e (l.awaiting ep late) := rfl

/-- The next slot of an episode that has become current is filled by its NEXT or by the cue test (R46, R47). -/
theorem fillNext_moves (ep : Episode) (l : Lane) (late : Bool) :
    LaneMoves e (l.awaiting ep late) (becomeCurrent e.toLaneEnv late ep l).lane := by
  rw [becomeCurrent_eq]
  cases ep.next with
  | some n => exact .single (.requestsNext n rfl rfl)
  | none => exact .single (.cueTest _)

theorem actOnNextSlot_moves {l : Lane} (hstate : l.state = .active) :
    LaneMoves e l (actOnNextSlot e.toLaneEnv l).lane := by
  unfold actOnNextSlot
  dsimp only
  split
  next ep hnext => exact .head (.awaits ep hstate hnext) (fillNext_moves e ep { l with current := none, stage := none } false)
  next hnext => exact .single (.fetches hstate hnext)
  next hnext => exact .head (.idles hstate hnext) (.single (.cueTest _))
  next cause index hnext => exact .single (.halts cause index hstate hnext)

theorem endApplication_moves (ep : Episode) {l : Lane} (hstate : l.state = .active) :
    LaneMoves e l (endApplication e ep l).lane := by
  refine .head (.unstages l) ?_
  unfold endApplication
  dsimp only
  split
  · simp only [LaneOut.andThen]
    split
    · exact .single (.waitsAgain (.inl hstate))
    · exact .single (.entersGap hstate)
  · exact actOnNextSlot_moves e (l := { l with stage := none }) hstate

theorem fire_moves {ep : Episode} {l : Lane} (hstate : l.state = .waiting) (hcurrent : l.current = some ep)
    (hengine : e.engine = .running) : LaneMoves e l (fire e ep l).lane := by
  unfold fire
  dsimp only
  generalize (if l.application = 0 then getPhase e.figures.rmsI ep.reference else l.iref) = iref
  refine .head (.begins ep iref hstate hengine) ?_
  split
  · exact .single (.stages ep _ 0 true rfl hcurrent ‹_›)
  · exact endApplication_moves e ep (l := l.begun ep _ _) rfl

theorem activeWork_moves {ep : Episode} {l : Lane} (hstate : l.state = .active) (hcurrent : l.current = some ep) :
    LaneMoves e l (activeWork e ep l).lane := by
  unfold activeWork
  dsimp only
  refine .head (.advances l) ?_
  split
  · exact endApplication_moves e ep (l := l.advanced e.advance) hstate
  · refine .head (.stages ep _ _ false hstate hcurrent ‹_›) ?_
    split
    · exact .single (.flickers _ _ _)
    · exact .refl

theorem gapWork_moves (ep : Episode) {l : Lane} (hstate : l.state = .gap) : LaneMoves e l (gapWork e ep l).lane := by
  unfold gapWork
  dsimp only
  refine .head (.advances l) ?_
  split
  · exact .single (.waitsAgain (.inr hstate))
  · exact .refl

/-- A lane that listens for an END is WAITING in RUNNING (R54). -/
def Listens (o : LaneOut) : Prop := o.listening.isSome = true → o.lane.state = .waiting ∧ e.engine = .running

theorem waitingWork_moves {ep : Episode} {l : Lane} (hstate : l.state = .waiting) (hcurrent : l.current = some ep) :
    LaneMoves e l (waitingWork e ep l).lane := by
  refine .head (.marks l true l.evaluated) ?_
  unfold waitingWork
  dsimp only
  split
  · split
    · exact .refl
    · split
      · exact fire_moves e hstate hcurrent ‹_›
      · exact .single (.marks _ true _)
  · exact .refl

theorem ownWork_moves (l : Lane) : LaneMoves e l (ownWork e l).lane := by
  unfold ownWork
  split
  · exact waitingWork_moves e ‹_› ‹_›
  · exact activeWork_moves e ‹_› ‹_›
  · exact gapWork_moves e _ ‹_›
  · exact .refl

end

/-! #### Listening and discarding -/

theorem fire_listening (e : SampleEnv) (ep : Episode) (l : Lane) : (fire e ep l).listening = none := by
  unfold fire
  dsimp only
  split
  · rfl
  · simp only [LaneOut.andThen, end_listening]; rfl

theorem activeWork_listening (e : SampleEnv) (ep : Episode) (l : Lane) : (activeWork e ep l).listening = none := by
  unfold activeWork
  dsimp only
  split
  · exact end_listening _ _ _
  · split
    · unfold Lane.flickerStep; split <;> rfl
    · rfl

theorem ownWork_listens (e : SampleEnv) (l : Lane) : Listens e (ownWork e l) := by
  unfold ownWork
  split
  · rename_i ep hstate hcurrent
    unfold waitingWork
    dsimp only
    split
    · split
      · exact fun _ => ⟨hstate, ‹_›⟩
      · split
        · simp [Listens, fire_listening]
        · nofun
    · nofun
  · simp [Listens, activeWork_listening]
  · unfold gapWork
    dsimp only
    split <;> nofun
  · nofun

theorem laneWork_listens (e : SampleEnv) (l : Lane) : Listens e (laneWork e l) := by
  unfold laneWork
  dsimp only
  generalize (if (e.cycleStart && l.state == .active) = true then l.takeRms e.figures else l) = m
  split
  · unfold protectWork; split <;> nofun
  · split
    · unfold releaseWork; simp only [LaneOut.andThen]
      split <;> split <;> nofun
    · split
      · nofun
      · exact ownWork_listens e m

theorem hearEnd_cases (e : SampleEnv) (ended : PerLane Bool) (o : LaneOut) (h : Listens e o) :
    hearEnd e ended o = o ∨ ∃ ep, o.lane.state = .waiting ∧ o.lane.current = some ep ∧ e.engine = .running ∧
      hearEnd e ended o = { o with listening := none }.andThen (fire e ep) := by
  unfold hearEnd
  split
  · rename_i k ep hlistening hcurrent
    split
    · obtain ⟨hstate, hengine⟩ := h (by rw [hlistening]; rfl)
      exact .inr ⟨ep, hstate, hcurrent, hengine, rfl⟩
    · exact .inl rfl
  · exact .inl rfl

theorem hearEnd_listens (e : SampleEnv) (ended : PerLane Bool) (o : LaneOut) (h : Listens e o) :
    Listens e (hearEnd e ended o) := by
  obtain heq | ⟨ep, -, -, -, heq⟩ := hearEnd_cases e ended o h <;> rw [heq]
  · exact h
  · simp [Listens, LaneOut.andThen, fire_listening]

/-- What the first work of every lane establishes, a heard END keeps and the close of listening keeps, holds after the
work of the lanes. -/
theorem lanesWork_induction (R : LaneId → LaneOut → Prop) (envs : PerLane SampleEnv) (ls : PerLane Lane)
    (hfirst : ∀ k, R k (laneWork (getLane envs k) (getLane ls k)))
    (hfire : ∀ k o ep, R k o → o.lane.state = .waiting → o.lane.current = some ep →
      (getLane envs k).engine = .running → R k ({ o with listening := none }.andThen (fire (getLane envs k) ep)))
    (hclose : ∀ k o, R k o → R k { o with lane := { o.lane with evaluated := true } }) (k : LaneId) :
    R k (getLane (lanesWork envs ls) k) := by
  have hrounds : ∀ n os, (∀ k, R k (getLane os k) ∧ Listens (getLane envs k) (getLane os k)) →
      ∀ k, R k (getLane (cascadeRounds envs n os) k) := by
    intro n
    induction n with
    | zero => exact fun os h k => (h k).1
    | succ n ih =>
      intro os h
      refine ih _ fun k => ?_
      rw [getLane_tabLane]
      obtain ⟨hR, hlistens⟩ := h k
      refine ⟨?_, hearEnd_listens _ _ _ hlistens⟩
      obtain heq | ⟨ep, hstate, hcurrent, hengine, heq⟩ := hearEnd_cases (getLane envs k) (lastEnds os) _ hlistens
      · rw [heq]; exact hR
      · rw [heq]; exact hfire k _ ep hR hstate hcurrent hengine
  unfold lanesWork
  rw [getLane_tabLane]
  have hlast := hrounds 6 (tabLane fun k => laneWork (getLane envs k) (getLane ls k))
    (fun k => by rw [getLane_tabLane]; exact ⟨hfirst k, laneWork_listens _ _⟩) k
  unfold closeListening
  split
  · exact hclose k _ hlast
  · exact hlast

/-- The courses of a lane's work at a sample event, cascades apart: what a trip or fault, a RELEASE, a pending stop or
its own work makes of the lane once it has taken the RMS voltage, and whether the lane then discards its fetches (R17,
R61, R66, R68, R69). -/
inductive LaneCourse (e : SampleEnv) (l m : Lane) : Lane → Bool → Prop
  | protectedHalted (d : Bool) (hprotection : e.protection = true) (hstate : l.state = .halted) : LaneCourse e l m m d
  | protects (hprotection : e.protection = true) (hstate : l.state ≠ .halted) : LaneCourse e l m m.halted true
  | releasedHalted (d : Bool) (hprotection : e.protection = false) (hreleased : e.released = true)
      (hstate : l.state = .halted) (hstop : l.pendingStop = false) : LaneCourse e l m m d
  | releases (hprotection : e.protection = false) (hreleased : e.released = true) (hstate : l.state ≠ .halted)
      (hstop : l.pendingStop = false) : LaneCourse e l m { m.emptied with state := .idle } true
  | releasedStops (hprotection : e.protection = false) (hreleased : e.released = true) (hstop : l.pendingStop = true) :
      LaneCourse e l m m.halted true
  | stops (hprotection : e.protection = false) (hreleased : e.released = false) (hstop : l.pendingStop = true) :
      LaneCourse e l m m.halted true
  | works (d : Bool) (hprotection : e.protection = false) (hreleased : e.released = false)
      (hstop : l.pendingStop = false) {n : Lane} (hmoves : LaneMoves e m n) : LaneCourse e l m n d

/-- The lane once it has taken the RMS voltage of a cycle start (R61). -/
def Lane.rmsTaken (l : Lane) (e : SampleEnv) : Lane :=
  if e.cycleStart && l.state == .active then l.takeRms e.figures else l

theorem Lane.rmsTaken_cases (l : Lane) (e : SampleEnv) : l.rmsTaken e = l ∨ l.rmsTaken e = l.takeRms e.figures := by
  unfold Lane.rmsTaken
  split
  · exact .inr rfl
  · exact .inl rfl

theorem laneWork_course (e : SampleEnv) (l : Lane) : LaneCourse e l (l.rmsTaken e) (laneWork e l).lane (laneWork e l).discards := by
  have hkept : (l.rmsTaken e).state = l.state ∧ (l.rmsTaken e).pendingStop = l.pendingStop := by
    obtain heq | heq := l.rmsTaken_cases e
    · rw [heq]; exact ⟨rfl, rfl⟩
    · rw [heq]; exact ⟨(takeRms_kept l e.figures).1, (takeRms_kept l e.figures).2.2.2.2.1⟩
  obtain ⟨hstate, hstop⟩ := hkept
  have hwork : laneWork e l = if e.protection then protectWork e (l.rmsTaken e)
      else if e.released then
        (releaseWork e (l.rmsTaken e)).andThen fun l => if l.pendingStop then stopWork e l else { lane := l }
      else if (l.rmsTaken e).pendingStop then stopWork e (l.rmsTaken e) else ownWork e (l.rmsTaken e) := rfl
  rw [hwork]
  generalize l.rmsTaken e = m at *
  by_cases hprotection : e.protection = true
  · rw [if_pos hprotection]
    unfold protectWork
    split
    · exact .protectedHalted _ hprotection (hstate ▸ ‹m.state = .halted›)
    · exact .protects hprotection (hstate ▸ ‹¬ m.state = .halted›)
  rw [if_neg hprotection]
  rw [Bool.not_eq_true] at hprotection
  by_cases hreleased : e.released = true
  · rw [if_pos hreleased]
    unfold releaseWork
    dsimp only [LaneOut.andThen]
    by_cases hhalted : m.state = .halted
    · rw [if_pos hhalted]
      by_cases hpending : m.pendingStop = true
      · rw [if_pos hpending]
        exact .releasedStops hprotection hreleased (hstop ▸ hpending)
      · rw [if_neg hpending]
        rw [hstop, Bool.not_eq_true] at hpending
        exact .releasedHalted _ hprotection hreleased (hstate ▸ hhalted) hpending
    · rw [if_neg hhalted]
      by_cases hpending : m.pendingStop = true
      · rw [if_pos (show ({ m.emptied with state := .idle } : Lane).pendingStop = true from hpending)]
        exact .releasedStops hprotection hreleased (hstop ▸ hpending)
      · rw [if_neg (show ¬ ({ m.emptied with state := .idle } : Lane).pendingStop = true from hpending)]
        rw [hstop, Bool.not_eq_true] at hpending
        exact .releases hprotection hreleased (hstate ▸ hhalted) hpending
  rw [if_neg hreleased]
  rw [Bool.not_eq_true] at hreleased
  by_cases hpending : m.pendingStop = true
  · rw [if_pos hpending]
    exact .stops hprotection hreleased (hstop ▸ hpending)
  · rw [if_neg hpending]
    rw [hstop, Bool.not_eq_true] at hpending
    exact .works _ hprotection hreleased hpending (ownWork_moves e m)

end Sys2Proof.Machine
end
section
/-! ### What the lanes hold (R21, R58, R80)

The episodes a lane and the transaction in flight carry, and the three level figures of a lane, through every event.
The frequency and the levels both stand on it: the frequency asks nothing of the level figures. -/

namespace Sys2Proof.Machine

/-- A lane whose episodes, and those its waiting request carries, are in range, with its level figures under a law. -/
structure Lane.Sound (L : PerPhase Int → Prop) (l : Lane) : Prop where
  current : ∀ ep, l.current = some ep → ep.kind.inRange = true
  next : ∀ ep, l.next = .loaded ep → ep.kind.inRange = true
  request : ∀ f, l.request = some f → ∀ ep ∈ f.episodes, ep.kind.inRange = true
  start : L l.start
  envelope : L l.envelope
  origin : L l.exitOrigin

/-- The law lets an application begin from the last composed levels, and its stages lead on from there (R56, R58). -/
structure LevelLaw (L : PerPhase Int → Prop) (lastComposed : PerPhase Int) (steady : PerPhase Nat) : Prop where
  starts : ∀ ep, L (startValues ep lastComposed)
  stages : ∀ (ep : Episode) (stage : Stage) (p : Nat) (atTrigger : Bool) (l : Lane), ep.kind.inRange = true →
    stageAt ep p = some stage → l.Sound L →
      L (l.inStage ep steady stage p atTrigger).envelope ∧ L (l.inStage ep steady stage p atTrigger).exitOrigin

section
variable {L : PerPhase Int → Prop} {l : Lane} (h : l.Sound L)
include h

theorem Lane.Sound.emptied : l.emptied.Sound L :=
  ⟨(fun _ h => nomatch h), (fun _ h => nomatch h), (fun _ h => nomatch h), h.start, h.envelope, h.origin⟩

theorem Lane.Sound.halted : l.halted.Sound L :=
  have hemptied := h.emptied
  ⟨hemptied.current, hemptied.next, hemptied.request, h.start, h.envelope, h.origin⟩

theorem Lane.Sound.refuse (e : LaneEnv) (cause : Refused) (offending index : Half) :
    (refuse e cause offending index l).lane.Sound L := by
  unfold Sys2Proof.Machine.refuse
  split
  · exact h.halted
  · exact ⟨h.current, (fun _ h => nomatch h), (fun _ h => nomatch h), h.start, h.envelope, h.origin⟩

theorem Lane.Sound.requestCue : l.requestCue.Sound L := by
  have hcue : ∀ f, some Fetch.cue = some f → ∀ ep ∈ f.episodes, ep.kind.inRange = true := by
    intro f hf
    cases hf
    simp [Fetch.episodes]
  unfold Lane.requestCue
  split
  · exact h
  · split
    · exact ⟨h.current, h.next, hcue, h.start, h.envelope, h.origin⟩
    · exact ⟨h.current, (fun _ h => nomatch h), hcue, h.start, h.envelope, h.origin⟩

theorem Lane.Sound.cueTest (e : LaneEnv) : (cueTest e l).lane.Sound L := by
  unfold Sys2Proof.Machine.cueTest
  split
  · split
    · exact h
    · split
      · exact h.requestCue
      · exact h.refuse e _ _ _
  · exact h

theorem Lane.Sound.withdrawCue : l.withdrawCue.Sound L := by
  unfold Lane.withdrawCue
  split
  · exact ⟨h.current, h.next, (fun _ h => nomatch h), h.start, h.envelope, h.origin⟩
  · exact ⟨h.current, (fun _ h => nomatch h), (fun _ h => nomatch h), h.start, h.envelope, h.origin⟩

theorem Lane.Sound.awaiting {ep : Episode} (hep : ep.kind.inRange = true) (late : Bool) : (l.awaiting ep late).Sound L :=
  ⟨fun _ hcurrent => by cases hcurrent; exact hep, (fun _ h => nomatch h), (fun _ h => nomatch h), h.start, h.envelope,
    h.origin⟩

theorem Lane.Sound.requestsEpisode (n : Nat) :
    ({ l with next := .fetching, request := some (.episode n) } : Lane).Sound L :=
  ⟨h.current, (fun _ h => nomatch h), fun f hf => by cases hf; simp [Fetch.episodes], h.start, h.envelope, h.origin⟩

theorem Lane.Sound.completeEpisode (e : LaneEnv) {ep : Episode} (hep : ep.kind.inRange = true) :
    (completeEpisode e ep l).lane.Sound L := by
  unfold Sys2Proof.Machine.completeEpisode
  split
  · rw [becomeCurrent_eq]
    split
    · exact (h.awaiting hep _).requestsEpisode _
    · exact (h.awaiting hep _).cueTest e
  · exact ⟨h.current, fun _ hnext => by cases hnext; exact hep, (fun _ h => nomatch h), h.start, h.envelope, h.origin⟩

theorem Lane.Sound.laneLoad (e : LaneEnv) {g : LaneEnv → Lane → LaneOut} (hg : LaneLoad (·.kind.inRange = true) g) :
    (g e l).lane.Sound L := by
  cases hg with
  | request f hf => exact ⟨h.current, h.next, fun _ heq => by cases heq; exact hf, h.start, h.envelope, h.origin⟩
  | refuse cause offending index => exact h.refuse e cause offending index
  | complete ep hep => exact h.completeEpisode e hep

theorem Lane.Sound.takeRms (figures : Figures) : (l.takeRms figures).Sound L := by
  unfold Lane.takeRms
  split
  · dsimp only
    split <;> exact ⟨h.current, h.next, h.request, h.start, h.envelope, h.origin⟩
  · exact h

theorem Lane.Sound.move {e : SampleEnv} (hlaw : LevelLaw L e.lastComposed e.steady) {m : Lane} (hmove : LaneMove e l m) :
    m.Sound L := by
  cases hmove with
  | cueTest => exact h.cueTest e.toLaneEnv
  | idles => exact ⟨(fun _ h => nomatch h), h.next, h.request, h.start, h.envelope, h.origin⟩
  | fetches => exact ⟨(fun _ h => nomatch h), (fun _ h => nomatch h), h.request, h.start, h.envelope, h.origin⟩
  | awaits ep hstate hnext => exact h.awaiting (h.next ep hnext) false
  | halts => exact h.halted
  | requestsNext n => exact h.requestsEpisode n
  | unstages | waitsAgain | entersGap | advances | marks =>
    exact ⟨h.current, h.next, h.request, h.start, h.envelope, h.origin⟩
  | begins ep => exact ⟨h.current, h.next, h.request, hlaw.starts ep, h.envelope, h.origin⟩
  | stages ep stage p atTrigger hstate hcurrent hstage =>
    obtain ⟨henvelope, horigin⟩ := hlaw.stages ep stage p atTrigger l (h.current ep hcurrent) hstage h
    have hkept : (l.inStage ep e.steady stage p atTrigger).current = l.current ∧
        (l.inStage ep e.steady stage p atTrigger).next = l.next ∧
        (l.inStage ep e.steady stage p atTrigger).request = l.request ∧
        (l.inStage ep e.steady stage p atTrigger).start = l.start := by
      unfold Lane.inStage
      split <;> exact ⟨rfl, rfl, rfl, rfl⟩
    obtain ⟨hsame, hnext, hrequest, hstart⟩ := hkept
    exact ⟨hsame ▸ h.current, hnext ▸ h.next, hrequest ▸ h.request, hstart ▸ h.start, henvelope, horigin⟩
  | flickers depth interval =>
    unfold Lane.flickerStep
    split <;> exact ⟨h.current, h.next, h.request, h.start, h.envelope, h.origin⟩

theorem Lane.Sound.moves {e : SampleEnv} (hlaw : LevelLaw L e.lastComposed e.steady) {m : Lane}
    (hmoves : LaneMoves e l m) : m.Sound L := hmoves.keeps (fun _ _ hmove hl => hl.move hlaw hmove) h

theorem Lane.Sound.laneWork {e : SampleEnv} (hlaw : LevelLaw L e.lastComposed e.steady) :
    (laneWork e l).lane.Sound L := by
  have htaken : (l.rmsTaken e).Sound L := by
    obtain heq | heq := l.rmsTaken_cases e
    · rw [heq]; exact h
    · rw [heq]; exact h.takeRms e.figures
  have hcourse := laneWork_course e l
  generalize (Sys2Proof.Machine.laneWork e l).lane = out, (Sys2Proof.Machine.laneWork e l).discards = d at *
  cases hcourse with
  | protectedHalted | releasedHalted => exact htaken
  | protects | releasedStops | stops => exact htaken.halted
  | releases =>
    have hemptied := htaken.emptied
    exact ⟨hemptied.current, hemptied.next, hemptied.request, htaken.start, htaken.envelope, htaken.origin⟩
  | works _ _ _ _ hmoves => exact htaken.moves hlaw hmoves

end

theorem lanesWork_sound {L : PerPhase Int → Prop} {envs : PerLane SampleEnv} {ls : PerLane Lane}
    (hlaw : ∀ k, LevelLaw L (getLane envs k).lastComposed (getLane envs k).steady) (h : ∀ k, (getLane ls k).Sound L)
    (k : LaneId) : (getLane (lanesWork envs ls) k).lane.Sound L := by
  refine lanesWork_induction (fun _ o => o.lane.Sound L) envs ls (fun k => (h k).laneWork (hlaw k)) ?_ ?_ k
  · intro k o ep ho hstate hcurrent hengine
    exact ho.moves (hlaw k) (fire_moves _ hstate hcurrent hengine)
  · intro k o ho
    exact ⟨ho.current, ho.next, ho.request, ho.start, ho.envelope, ho.origin⟩

theorem Lane.sound_reset {L : PerPhase Int → Prop} (hzero : L (perPhase 0)) : Lane.reset.Sound L :=
  ⟨(fun _ h => nomatch h), (fun _ h => nomatch h), (fun _ h => nomatch h), hzero, hzero, hzero⟩

/-! #### Records that pass are in range (R41) -/

theorem clampNat_mem {lo hi : Nat} (h : lo ≤ hi) (n : Nat) : lo ≤ clampNat lo hi n ∧ clampNat lo hi n ≤ hi := by
  unfold clampNat
  split
  · omega
  · split <;> omega

theorem clampInt_mem {lo hi : Int} (h : lo ≤ hi) (n : Int) : lo ≤ clampInt lo hi n ∧ clampInt lo hi n ≤ hi := by
  unfold clampInt
  split
  · omega
  · split <;> omega

theorem kindOf_inRange {code : Nat} {value1 : Int} {value2 : Nat} {kind : Kind} {clamped : Bool}
    (h : kindOf code value1 value2 = some (kind, clamped)) : kind.inRange = true := by
  unfold kindOf at h
  split at h <;> simp only [Option.some.injEq, Prod.mk.injEq, reduceCtorEq] at h
  case h_1 =>
    obtain ⟨rfl, -⟩ := h
    have ht := clampInt_mem (lo := 0) (hi := 20000) (by decide) value1
    exact decide_eq_true (by omega)
  case h_4 =>
    obtain ⟨rfl, -⟩ := h
    have hd := clampInt_mem (lo := 0) (hi := 2000) (by decide) value1
    have hr := clampNat_mem (lo := 1) (hi := 3000) (by decide) value2
    simp only [Kind.inRange, Bool.and_eq_true, decide_eq_true_eq, beq_self_eq_true, and_true]
    omega
  case h_5 =>
    obtain ⟨rfl, -⟩ := h
    have hf := clampInt_mem (lo := 45000) (hi := 65000) (by decide) value1
    simp only [Kind.inRange, Bool.and_eq_true, decide_eq_true_eq]
    omega
  case h_6 =>
    obtain ⟨rfl, -⟩ := h
    have hj := clampInt_mem (lo := -1800) (hi := 1800) (by decide) value1
    simp only [Kind.inRange, Bool.and_eq_true, decide_eq_true_eq, beq_self_eq_true, and_true]
    exact hj
  all_goals
    obtain ⟨rfl, -⟩ := h
    rfl

/-- A record that passes every test is the loaded episode of its kind (R39, R41). -/
theorem validateRecord_ok {mode : BitVec 2} {episodes shapes n : Nat} {ws : List Word} {ep : Episode}
    (h : validateRecord mode episodes shapes n ws = .ok ep) :
    ∃ kind clamped trigger, kindOf (u8 ws 0) (s32 ws 8) (u32 ws 12) = some (kind, clamped) ∧
      triggerOf (u8 ws 3) (u32 ws 4) = some trigger ∧ ep = loadEpisode mode n ws kind clamped trigger := by
  unfold validateRecord at h
  split at h
  · cases h
  · split at h
    · cases h
    · split at h
      · cases h
      · split at h
        · cases h
        · split at h
          · split at h <;> cases h
            exact ⟨_, _, _, ‹_›, ‹_›, rfl⟩
          · cases h
            exact ⟨_, _, _, ‹_›, ‹_›, rfl⟩

theorem validateRecord_inRange {mode : BitVec 2} {episodes shapes n : Nat} {ws : List Word} {ep : Episode}
    (h : validateRecord mode episodes shapes n ws = .ok ep) : ep.kind.inRange = true := by
  obtain ⟨kind, clamped, trigger, hkind, -, rfl⟩ := validateRecord_ok h
  exact kindOf_inRange hkind

/-! #### The part -/

/-- Every lane is sound, and the transaction in flight carries episodes in range alone. -/
structure State.Sound (L : PerPhase Int → Prop) (s : State) : Prop where
  lanes : ∀ k, (getLane s.lanes k).Sound L
  slot : ∀ tr, s.port.slot = some tr → ∀ ep ∈ tr.kind.episodes, ep.kind.inRange = true

theorem mem_lane_episodes {l : Lane} {ep : Episode} :
    ep ∈ l.episodes ↔ l.current = some ep ∨ l.next = .loaded ep ∨ ∃ f, l.request = some f ∧ ep ∈ f.episodes := by
  have hnext : ep ∈ l.next.episodes ↔ l.next = .loaded ep := by
    cases l.next <;> simp [NextSlot.episodes, eq_comm]
  simp [Lane.episodes, hnext]

theorem mem_state_episodes {s : State} {ep : Episode} :
    ep ∈ s.episodes ↔ (∃ k, ep ∈ (getLane s.lanes k).episodes) ∨ ∃ tr, s.port.slot = some tr ∧ ep ∈ tr.kind.episodes := by
  simp [State.episodes, mem_allLanes]

/-- With the level figures under their law, a sound part is one whose episodes are all in range. -/
theorem State.sound_iff {L : PerPhase Int → Prop} {s : State} :
    s.Sound L ↔ (∀ ep ∈ s.episodes, ep.kind.inRange = true) ∧ (∀ k, L (getLane s.lanes k).start) ∧
      (∀ k, L (getLane s.lanes k).envelope) ∧ ∀ k, L (getLane s.lanes k).exitOrigin := by
  constructor
  · intro h
    refine ⟨fun ep hep => ?_, fun k => (h.lanes k).start, fun k => (h.lanes k).envelope, fun k => (h.lanes k).origin⟩
    obtain ⟨k, hk⟩ | ⟨tr, htr, hep⟩ := mem_state_episodes.1 hep
    · obtain hcurrent | hnext | ⟨f, hf, hep⟩ := mem_lane_episodes.1 hk
      · exact (h.lanes k).current ep hcurrent
      · exact (h.lanes k).next ep hnext
      · exact (h.lanes k).request f hf ep hep
    · exact h.slot tr htr ep hep
  · rintro ⟨hkinds, hstart, henvelope, horigin⟩
    have hlane : ∀ k ep, ep ∈ (getLane s.lanes k).episodes → ep.kind.inRange = true :=
      fun k ep hep => hkinds ep (mem_state_episodes.2 (.inl ⟨k, hep⟩))
    exact ⟨fun k => ⟨fun ep hep => hlane k ep (mem_lane_episodes.2 (.inl hep)),
        fun ep hep => hlane k ep (mem_lane_episodes.2 (.inr (.inl hep))),
        fun f hf ep hep => hlane k ep (mem_lane_episodes.2 (.inr (.inr ⟨f, hf, hep⟩))), hstart k, henvelope k, horigin k⟩,
      fun tr htr ep hep => hkinds ep (mem_state_episodes.2 (.inr ⟨tr, htr, hep⟩))⟩

theorem BusKind.unwanted_episodes (ks : LaneId → Bool) (kind : BusKind) : (kind.unwanted ks).episodes = kind.episodes := by
  cases kind <;> rfl

section
variable {L : PerPhase Int → Prop} {s : State} (h : s.Sound L)
include h

/-- A change of a sound part that leaves the lanes, and the slot's transaction but for its marks, is sound. -/
theorem State.Sound.of_same {t : State} (hlanes : t.lanes = s.lanes)
    (hslot : ∀ tr, t.port.slot = some tr → tr.kind.episodes = [] ∨
      ∃ tr', s.port.slot = some tr' ∧ tr.kind.episodes = tr'.kind.episodes) : t.Sound L := by
  refine ⟨hlanes ▸ h.lanes, fun tr htr ep hep => ?_⟩
  obtain hnone | ⟨tr', htr', heq⟩ := hslot tr htr
  · rw [hnone] at hep; cases hep
  · exact h.slot tr' htr' ep (heq ▸ hep)

theorem State.Sound.same {t : State} (hlanes : t.lanes = s.lanes) (hslot : t.port.slot = s.port.slot) : t.Sound L :=
  h.of_same hlanes fun tr htr => .inr ⟨tr, hslot ▸ htr, rfl⟩

theorem State.Sound.setLane {k : LaneId} {l : Lane} (hl : l.Sound L) :
    ({ s with lanes := setLane s.lanes k l } : State).Sound L := by
  refine ⟨fun j => ?_, h.slot⟩
  by_cases hj : j = k
  · subst hj; rw [getLane_setLane_same]; exact hl
  · rw [getLane_setLane_of_ne _ hj]; exact h.lanes j

theorem State.Sound.runLane {k : LaneId} {f : LaneEnv → Lane → LaneOut} (hf : ∀ e l, l.Sound L → (f e l).lane.Sound L) :
    (s.runLane k f).Sound L :=
  (h.setLane (hf (s.laneEnv k) _ (h.lanes k))).same rfl rfl

theorem State.Sound.cueTests : s.cueTests.Sound L := by
  unfold State.cueTests
  induction allLanes generalizing s with
  | nil => exact h
  | cons k rest ih => exact ih (h.runLane fun e _ hl => hl.cueTest e)

theorem State.Sound.discard (ks : LaneId → Bool) {t : State} (hlanes : t.lanes = s.lanes)
    (hport : t.port.slot = (s.port.discardFetches ks).slot) : t.Sound L := by
  refine h.of_same hlanes fun tr htr => .inr ?_
  rw [hport, Port.discardFetches, Option.map_eq_some_iff] at htr
  obtain ⟨tr', htr', rfl⟩ := htr
  exact ⟨tr', htr', BusKind.unwanted_episodes ks tr'.kind⟩

theorem State.Sound.freeSlot : s.freeSlot.Sound L := ⟨h.lanes, (fun _ h => nomatch h)⟩

theorem State.Sound.fail : s.fail.state.Sound L := by
  obtain ⟨hidle, hflight⟩ := State.fail_spec s
  cases hslot : s.port.slot with
  | none => rw [hidle hslot]; exact h
  | some tr =>
    cases horphan : tr.orphan with
    | true => rw [(hflight tr hslot).1 horphan]; exact h.freeSlot
    | false =>
      rw [(hflight tr hslot).2 horphan]
      have hfreed : (s.freeSlot.setFlag .bus).Sound L := ⟨h.lanes, (fun _ h => nomatch h)⟩
      unfold State.failed
      split
      case h_6 =>
        unfold State.fetchFailed
        split
        · exact (hfreed.setLane ((hfreed.lanes _).refuse _ _ _ _)).same rfl rfl
        · exact hfreed
      all_goals exact hfreed.same rfl rfl

theorem State.Sound.failNow : s.failNow.Sound L := h.fail.same rfl rfl

theorem State.Sound.granted {t : State} (hgrant : Granted s t) : t.Sound L := by
  have hissued : ∀ {u : State} {kind : BusKind}, u.lanes = s.lanes → kind.episodes = [] →
      (∀ tr, u.port.slot = some tr → tr.kind = kind) → u.Sound L :=
    fun hlanes hkind hu => h.of_same hlanes fun tr htr => .inl (hu tr htr ▸ hkind)
  cases hgrant with
  | idle => exact h
  | load => exact hissued (kind := .loadHeader) rfl rfl fun tr htr => by cases htr; rfl
  | taken k => exact hissued (kind := .takenCount k (getLane s.port.taken k)) rfl rfl fun tr htr => by cases htr; rfl
  | written => exact hissued (kind := .writtenCount) rfl rfl fun tr htr => by cases htr; rfl
  | scan => exact hissued (kind := .scan) rfl rfl fun tr htr => by cases htr; rfl
  | journal head rest =>
    unfold State.grantJournal
    split
    · exact h.same rfl rfl
    · exact hissued (kind := .journalRecord s.journal.drops) rfl rfl fun tr htr => by cases htr; rfl
  | fetch k f hrequest =>
    have hwithdrawn : ({ getLane s.lanes k with request := none } : Lane).Sound L :=
      have hk := h.lanes k
      ⟨hk.current, hk.next, (fun _ h => nomatch h), hk.start, hk.envelope, hk.origin⟩
    have hgranted : ∀ address length, ({ s with
        lanes := Sys2Proof.Machine.setLane s.lanes k { getLane s.lanes k with request := none }
        port := s.port.issueRead (.laneFetch k f true) s.port.planBase address length } : State).Sound L := by
      intro address length
      refine ⟨(h.setLane hwithdrawn).lanes, fun tr htr => ?_⟩
      cases htr
      exact (h.lanes k).request f hrequest
    unfold State.grantFetch
    cases f with
    | cue =>
      dsimp only
      split
      · exact (h.setLane (h.lanes k).withdrawCue).same rfl rfl
      · split
        · exact hgranted _ _
        · exact h.runLane fun e l hl =>
            Lane.Sound.refuse (l := { l with request := none }) ⟨hl.current, hl.next, (fun _ h => nomatch h),
              hl.start, hl.envelope, hl.origin⟩ e _ _ _
    | episode | shapeCount | shapeComponents => exact hgranted _ _

end

theorem State.Sound.load {L : PerPhase Int → Prop} {s : State} (h : s.Sound L) {k : LaneId}
    {g : LaneEnv → Lane → LaneOut} (hg : LaneLoad (·.kind.inRange = true) g) : (s.runLane k g).Sound L :=
  h.runLane fun e _ hl => hl.laneLoad e hg

theorem State.Sound.completed {L : PerPhase Int → Prop} {s t : State} {tr : Transaction} {c : Instr} (h : s.Sound L)
    (htr : ∀ ep ∈ tr.kind.episodes, ep.kind.inRange = true) (hdone : Completed s tr c t) :
    t.Sound L := by
  have hissued : ∀ {u : State} {kind : BusKind}, u.lanes = s.lanes → kind.episodes = [] →
      (∀ tr, u.port.slot = some tr → tr.kind = kind) → u.Sound L :=
    fun hlanes hkind hu => h.of_same hlanes fun tr htr => .inl (hu tr htr ▸ hkind)
  cases hdone with
  | loadHeader hk header => exact hissued (kind := .loadReadCount header) rfl rfl fun tr htr => by cases htr; rfl
  | loadReadCount header hk word =>
    exact hissued (kind := .loadWriteCount header word) rfl rfl fun tr htr => by cases htr; rfl
  | record => exact hissued (kind := .journalCount) rfl rfl fun tr htr => by cases htr; rfl
  | load header word =>
    refine h.same rfl ?_
    change (s.port.latch header.toList word).requestScan.slot = s.port.slot
    obtain heq | ⟨heq, -⟩ := Port.requestScan_spec (s.port.latch header.toList word) <;> rw [heq] <;> rfl
  | scan _ words => exact State.Sound.cueTests (h.same rfl rfl)
  | taken | count => exact h.same rfl rfl
  | cue k wanted _ word =>
    have hconsumed : ({ s with port := s.port.consumed k } : State).Sound L := h.same rfl rfl
    cases wanted with
    | false => exact hconsumed.runLane fun e _ hl => hl.cueTest e
    | true =>
      obtain ⟨g, hload, hg⟩ := cueDone_wanted s k word (·.kind.inRange = true)
      rw [hg]
      exact hconsumed.load hload
  | episode k n wanted _ words =>
    cases wanted with
    | false => exact h
    | true =>
      obtain ⟨g, hload, hg⟩ := episodeDone_wanted (P := (·.kind.inRange = true)) s k n words.toList
        fun _ => validateRecord_inRange
      rw [hg]
      exact h.load hload
  | shapeCount k ep wanted hk word =>
    have hep : ep.kind.inRange = true := htr ep (by rw [hk]; exact List.mem_singleton.2 rfl)
    cases wanted with
    | false => exact h
    | true =>
      obtain ⟨g, hload, hg⟩ := shapeCountDone_wanted (P := (·.kind.inRange = true)) s k ep word hep
      rw [hg]
      exact h.load hload
  | shapeComponents k ep count wanted hk words =>
    have hep : ep.kind.inRange = true := htr ep (by rw [hk]; exact List.mem_singleton.2 rfl)
    cases wanted with
    | false => exact h
    | true =>
      obtain ⟨g, hload, hg⟩ := shapeComponentsDone_wanted (P := (·.kind.inRange = true)) s k ep count words.toList
        fun _ _ => hep
      rw [hg]
      exact h.load hload

/-! #### The part at a sample event -/

section
variable {L : PerPhase Int → Prop} {w : Work} (h : w.state.Sound L)
include h

theorem Work.sound_expire (now : Bool) : (w.expire now).state.Sound L := by
  unfold Work.expire
  split
  · exact h.fail
  · exact h

theorem Work.sound_settle (i : SampleInputs) : (w.settle i).state.Sound L := by
  have hticked : w.tick.waitTimer.state.Sound L := by
    refine h.of_same rfl fun tr htr => .inr ?_
    obtain ⟨tr', htr', rfl⟩ := Option.map_eq_some_iff.1 htr
    exact ⟨tr', htr', rfl⟩
  refine (Work.sound_expire hticked i.expiryFirst).same ?_ ?_
  · simp [Work.settle]
  · have hscan : ∀ v : Work, v.cycleScan.state.port.slot = v.state.port.slot := by
      intro v
      rw [cycleScan_port]
      split
      · obtain heq | ⟨heq, -⟩ := Port.requestScan_spec v.state.port <;> rw [heq]
      · rfl
    simp only [Work.settle, Work.protect_port, hscan, Work.measure_port, Work.sampleLines_port, Work.opening_port,
      Work.dropHead_port]

/-- The lanes after their work at a sample event are sound. -/
theorem Work.sound_laned (i : SampleInputs) (hlaw : LevelLaw L w.state.composer.lastComposed w.state.composer.steady)
    (k : LaneId) : (getLane (lanedWork i w).state.lanes k).Sound L := by
  change Lane.Sound L (getLane (tabLane fun k => (getLane (lanesWork (tabLane _) w.state.lanes) k).lane) k)
  rw [getLane_tabLane]
  refine lanesWork_sound (fun j => ?_) h.lanes k
  rw [getLane_tabLane]
  exact hlaw

theorem Work.sound_perform (i : SampleInputs)
    (hlaw : LevelLaw L w.state.composer.lastComposed w.state.composer.steady) : (w.perform i).state.Sound L := by
  have hlanes := Work.sound_laned h i hlaw
  have hslot : (lanedWork i w).state.Sound L :=
    ⟨hlanes, (h.discard _ (t := { w.state with port := (lanedWork i w).state.port }) rfl rfl).slot⟩
  refine ⟨fun k => ?_, by rw [perform_port]; exact hslot.slot⟩
  rw [perform_lane]
  have hk := hlanes k
  exact ⟨hk.current, hk.next, hk.request, hk.start, hk.envelope, hk.origin⟩

theorem Work.sound_close (i : SampleInputs) : (w.close i).state.Sound L := by
  have hreport : w.report.state.Sound L := h.same rfl rfl
  refine (Work.sound_expire hreport (!i.expiryFirst)).same ?_ ?_ <;> simp [Work.close]

end

/-- The settling of a sample event leaves the figures of the composer that the lanes read. -/
theorem settle_levels (i : SampleInputs) (w : Work) :
    (w.settle i).state.composer.lastComposed = w.state.composer.lastComposed ∧
      (w.settle i).state.composer.steady = w.state.composer.steady ∧
      (w.settle i).state.composer.releaseLength = w.state.composer.releaseLength := by
  have hprotect : ∀ v : Work, (v.protect i).state.composer.lastComposed = v.state.composer.lastComposed ∧
      (v.protect i).state.composer.steady = v.state.composer.steady ∧
      (v.protect i).state.composer.releaseLength = v.state.composer.releaseLength := by
    intro v; rw [protect_composer]; exact ⟨rfl, rfl, rfl⟩
  have hopening : ∀ v : Work, v.opening.state.composer.lastComposed = v.state.composer.lastComposed ∧
      v.opening.state.composer.steady = v.state.composer.steady ∧
      v.opening.state.composer.releaseLength = v.state.composer.releaseLength := by
    intro v
    unfold Work.opening Work.actOnRelease Work.enterProgress
    dsimp only
    repeat' (first | exact ⟨rfl, rfl, rfl⟩ | split)
  simp only [Work.settle, hprotect, hopening, Work.cycleScan_composer, Work.measure_composer, Work.sampleLines_composer,
    Work.dropHead_composer, Work.expire_composer, Work.waitTimer_composer, Work.tick_composer, and_self]

theorem State.Sound.sampleWork {L : PerPhase Int → Prop} {s : State} (h : s.Sound L) (i : SampleInputs)
    (hrst : s.rstLow = false) (hlaw : LevelLaw L s.composer.lastComposed s.composer.steady) :
    (sampleWork i s).state.Sound L := by
  rw [sampleWork_eq i s hrst]
  refine Work.sound_close (Work.sound_perform (Work.sound_settle (w := { state := s }) h i) i ?_) i
  obtain ⟨hcomposed, hsteady, -⟩ := settle_levels i { state := s }
  rw [hcomposed, hsteady]
  exact hlaw

/-- Every command leaves a sound part sound, the law holding of the level 0 and of the composer's levels. -/
theorem State.Sound.effect {L : PerPhase Int → Prop} {s t : State} {c : Instr} (h : s.Sound L)
    (hzero : L (perPhase 0)) (hlaw : LevelLaw L s.composer.lastComposed s.composer.steady) (heffect : Effect s c t) :
    t.Sound L := by
  have hresets : ∀ k, (getLane (perLane Lane.reset) k).Sound L := fun k => by rw [getLane_perLane]; exact Lane.sound_reset hzero
  cases heffect with
  | ignored => exact h
  | powerOn => exact ⟨hresets, (fun _ h => nomatch h)⟩
  | softReset =>
    refine ⟨hresets, fun tr htr => ?_⟩
    obtain ⟨tr', htr', rfl⟩ := Option.map_eq_some_iff.1 htr
    exact h.slot tr' htr'
  | heldLow => exact ⟨h.lanes, (fun _ h => nomatch h)⟩
  | start =>
    refine ⟨hresets, ?_⟩
    exact (h.discard (fun _ => true) (t := { s with port := s.port.discardFetches fun _ => true }) rfl rfl).slot
  | release | clear | deferClear | flags | mask | planBase | receive => exact h.same rfl rfl
  | nudge =>
    refine h.same rfl ?_
    obtain heq | ⟨heq, -⟩ := Port.requestScan_spec s.port <;> rw [heq]
  | stop k =>
    have hk := h.lanes k
    have hstopped : ({ getLane s.lanes k with pendingStop := true, request := none } : Lane).Sound L :=
      ⟨hk.current, hk.next, (fun _ h => nomatch h), hk.start, hk.envelope, hk.origin⟩
    exact (h.setLane hstopped).discard (fun j => decide (j = k)) rfl rfl
  | resume k =>
    exact h.runLane fun e l hl =>
      Lane.Sound.cueTest (l := { l with state := .idle, late := false })
        ⟨hl.current, hl.next, hl.request, hl.start, hl.envelope, hl.origin⟩ e
  | sample _ i hrst => exact h.sampleWork i hrst hlaw
  | grant hslot hgrant => exact h.granted hgrant
  | disowned => exact h.freeSlot
  | completed tr hslot _ hdone => exact h.freeSlot.completed (h.slot tr hslot) hdone
  | failed => exact h.failNow

end Sys2Proof.Machine
end

section
/-! ### The frequency stays in the run range (R90, R94) -/

namespace Sys2Proof.Machine

/-- The frequency, the nominal and the latched one lie in the run range, and the increment is the one formed. -/
structure Timebase.InRange (tb : Timebase) : Prop where
  current : freqInRange tb.frequency
  nominal : freqInRange tb.nominal
  latched : freqInRange tb.latchedNominal
  increment : tb.increment = incrementOf tb.frequency

theorem freqInRange_reset : freqInRange 50000 := ⟨by decide, by decide⟩

theorem Timebase.inRange_reset (mode : BitVec 2) : (Timebase.reset mode).InRange :=
  ⟨freqInRange_reset, freqInRange_reset, freqInRange_reset, (by decide : 8388608 = incrementOf 50000)⟩

/-- A move from one frequency toward another stays between them (R94). -/
theorem moveFrequency_inRange {f target : Nat} (hf : freqInRange f) (htarget : freqInRange target) (slew : Nat) :
    freqInRange (moveFrequency f target slew) := by
  unfold freqInRange at *
  unfold moveFrequency
  split
  · exact htarget
  · split
    · omega
    · split <;> omega

section
variable {tb : Timebase} (h : tb.InRange)
include h

theorem Timebase.inRange_tick (mode : BitVec 2) : (tb.tick mode).InRange := by
  unfold Timebase.tick
  split
  · exact ⟨h.current, h.nominal, h.latched, h.increment⟩
  · unfold Timebase.restart
    dsimp only
    split
    · exact ⟨h.latched, h.latched, h.latched, rfl⟩
    · exact ⟨freqInRange_reset, freqInRange_reset, h.latched, rfl⟩

theorem Timebase.inRange_latch (header : List Word) : (tb.latch header).InRange :=
  ⟨h.current, h.nominal, clampNat_mem (by decide) _, h.increment⟩

theorem Timebase.inRange_applyFrequency {owner : Option (Nat × Nat)}
    (howner : ∀ target slew, owner = some (target, slew) → freqInRange target) :
    (tb.applyFrequency owner).InRange := by
  refine ⟨?_, h.nominal, h.latched, rfl⟩
  cases owner with
  | none => exact moveFrequency_inRange h.current h.nominal _
  | some o => exact moveFrequency_inRange h.current (howner o.1 o.2 rfl) _

end

/-- A set's owner is a lane with its current episode (R74). -/
theorem current_of_ownerEpisode {ls : PerLane Lane} {set : PerLane Bool} {k : LaneId} {ep : Episode}
    (h : ownerEpisode ls set = some (k, ep)) : (getLane ls k).current = some ep := by
  unfold ownerEpisode at h
  obtain ⟨j, -, hj⟩ := Option.bind_eq_some_iff.1 h
  obtain ⟨ep', hep, heq⟩ := Option.map_eq_some_iff.1 hj
  cases heq
  exact hep

theorem freqOwner_inRange {L : PerPhase Int → Prop} {ls : PerLane Lane} (h : ∀ k, (getLane ls k).Sound L) (c : Composer)
    {target slew : Nat} (howner : c.freqOwner ls = some (target, slew)) : freqInRange target := by
  unfold Composer.freqOwner at howner
  split at howner
  · rename_i k ep hep
    have hrange := (h k).current ep (current_of_ownerEpisode hep)
    split at howner
    · rename_i hkind
      cases howner
      rw [hkind] at hrange
      simpa [Kind.inRange, freqInRange] using hrange
    · cases howner
  · cases howner

/-- The frequency law says nothing of the levels. -/
def noLaw : PerPhase Int → Prop := fun _ => True

theorem levelLaw_noLaw (lastComposed : PerPhase Int) (steady : PerPhase Nat) : LevelLaw noLaw lastComposed steady :=
  ⟨fun _ => trivial, fun _ _ _ _ _ _ _ _ => ⟨trivial, trivial⟩⟩

theorem State.frequencyInRange_iff (s : State) : s.FrequencyInRange ↔ s.Sound noLaw ∧ s.timebase.InRange := by
  have hsound : s.Sound noLaw ↔ ∀ ep ∈ s.episodes, ep.kind.inRange = true := by
    rw [State.sound_iff]
    exact ⟨fun h => h.1, fun h => ⟨h, fun _ => trivial, fun _ => trivial, fun _ => trivial⟩⟩
  rw [hsound]
  exact ⟨fun h => ⟨h.kinds, h.current, h.nominal, h.latched, h.increment⟩,
    fun ⟨hkinds, htb⟩ => ⟨hkinds, htb.current, htb.nominal, htb.latched, htb.increment⟩⟩

theorem settle_timebase (i : SampleInputs) (w : Work) :
    (w.settle i).state.timebase = w.state.timebase.tick w.state.control.mode := by
  simp only [Work.settle, Work.protect_timebase, Work.cycleScan_timebase, Work.measure_timebase,
    Work.sampleLines_timebase, Work.opening_timebase, Work.dropHead_timebase, Work.expire_timebase,
    Work.waitTimer_timebase]
  rfl

theorem Work.timebase_inRange_perform {L : PerPhase Int → Prop} {w : Work} (h : w.state.timebase.InRange) (i : SampleInputs)
    (hlanes : ∀ k, (getLane (lanedWork i w).state.lanes k).Sound L) : (w.perform i).state.timebase.InRange := by
  have hfrequency : (w.perform i).state.timebase = (lanedWork i w).frequency.state.timebase := by
    simp only [Work.perform, Work.output_timebase, Work.commandRelays_timebase, Work.compose_timebase]
    rfl
  rw [hfrequency, frequency_timebase]
  split
  · exact Timebase.inRange_applyFrequency h fun target slew howner => freqOwner_inRange hlanes _ howner
  · exact h

theorem State.timebase_inRange_sampleWork {s : State} (hsound : s.Sound noLaw) (h : s.timebase.InRange)
    (i : SampleInputs) (hrst : s.rstLow = false) : (sampleWork i s).state.timebase.InRange := by
  rw [sampleWork_eq i s hrst]
  have hsettled : (Work.settle i { state := s }).state.timebase.InRange := by
    rw [settle_timebase]
    exact Timebase.inRange_tick h _
  simp only [Work.close, Work.dropHead_timebase, Work.enqueue_timebase, Work.expire_timebase, Work.report_timebase]
  refine Work.timebase_inRange_perform (L := noLaw) hsettled i ?_
  exact Work.sound_laned (Work.sound_settle (w := { state := s }) hsound i) i (levelLaw_noLaw _ _)

/-- Every command keeps the Timebase in range in a sound part. -/
theorem State.timebase_inRange_effect {s t : State} {c : Instr} (hsound : s.Sound noLaw) (h : s.timebase.InRange)
    (heffect : Effect s c t) : t.timebase.InRange := by
  cases heffect with
  | powerOn | softReset => exact Timebase.inRange_reset _
  | ignored | heldLow | start | release | nudge | clear | deferClear | flags | mask | planBase | stop | resume | receive
  | disowned => exact h
  | sample _ i hrst => exact State.timebase_inRange_sampleWork hsound h i hrst
  | grant _ hgrant => exact (sameBlocks_granted hgrant).timebase ▸ h
  | failed => exact (State.fail_timebase s).symm ▸ h
  | completed tr _ _ hdone =>
    obtain ⟨header, word, -, rfl⟩ | hsame := completed_cases hdone
    · exact Timebase.inRange_latch h header.toList
    · rw [hsame.timebase]; exact h

/-- Settles O58. -/
theorem frequencyStaysInRange : Obligations.FrequencyStaysInRange := by
  intro s t h hstep
  obtain rfl | ⟨c, rest, -, hexec⟩ := step_cases hstep
  · exact h
  · obtain ⟨hsound, htimebase⟩ := (State.frequencyInRange_iff s).1 h
    have hsound' : ({ s with pending := rest } : State).Sound noLaw := hsound.same rfl rfl
    have heffect := effect_of_exec hexec
    exact (State.frequencyInRange_iff t).2 ⟨hsound'.effect trivial (levelLaw_noLaw _ _) heffect,
      State.timebase_inRange_effect hsound' htimebase heffect⟩

end Sys2Proof.Machine
end

section
/-! ### The levels and the latched settings stay in range (R58, R77, R80, R104, R127, R140) -/

namespace Sys2Proof.Machine

/-! #### Levels -/

/-- The level law: the level of every phase lies in 0 to 20 000 (R80). -/
def levelsInRange (v : PerPhase Int) : Prop := ∀ x, levelInRange (getPhase v x)

theorem levelInRange_zero : levelInRange 0 := ⟨le_refl 0, by decide⟩

theorem levelsInRange_perPhase {n : Int} (h : levelInRange n) : levelsInRange (perPhase n) := fun x => by
  rw [getPhase_perPhase]; exact h

theorem levelInRange_ofNat {n : Nat} (h : n ≤ 20000) : levelInRange (Int.ofNat n) :=
  ⟨Int.natCast_nonneg n, Int.ofNat_le.2 h⟩

/-- The part of a distance that a ramp has gone through, before its end (R58). -/
theorem tdiv_ramp_mem {d : Int} {p n : Nat} (hd : 0 ≤ d) (hp : p ≤ n) :
    0 ≤ (d * p).tdiv n ∧ (d * p).tdiv n ≤ d := by
  have hnonneg : 0 ≤ d * p := mul_nonneg hd (Int.natCast_nonneg p)
  refine ⟨Int.tdiv_nonneg hnonneg (Int.natCast_nonneg n), ?_⟩
  rw [Int.tdiv_eq_ediv_of_nonneg hnonneg]
  obtain rfl | hn := Nat.eq_zero_or_pos n
  · rw [Int.natCast_zero, Int.ediv_zero]; exact hd
  · exact Int.ediv_le_of_le_mul (Int.natCast_pos.2 hn) (mul_le_mul_of_nonneg_left (Int.ofNat_le.2 hp) hd)

/-- A ramp that has not passed its end lies between its two levels (R58, R78, R79). -/
theorem rampPoint_mem {lo hi x y : Int} {p n : Nat} (hp : p ≤ n) (hx : lo ≤ x ∧ x ≤ hi) (hy : lo ≤ y ∧ y ≤ hi) :
    lo ≤ rampPoint x y p n ∧ rampPoint x y p n ≤ hi := by
  unfold rampPoint truncDiv
  obtain hup | hdown := le_total x y
  · have hpart := tdiv_ramp_mem (d := y - x) (by omega) hp
    omega
  · have hpart := tdiv_ramp_mem (d := x - y) (by omega) hp
    have hneg : ((y - x) * p).tdiv n = -((x - y) * p).tdiv n := by
      rw [← Int.neg_tdiv, ← neg_mul, neg_sub]
    omega

/-- The stage of a phase advance bounds the place on its ramp (R57). -/
theorem stageAt_bounds {ep : Episode} {p : Nat} {stage : Stage} (h : stageAt ep p = some stage) :
    (stage = .entry → p ≤ ep.entry) ∧ (stage = .exit → p - (ep.duration - ep.exit) ≤ ep.exit) := by
  unfold stageAt at h
  split at h
  · cases h
  · split at h
    · cases h; exact ⟨fun _ => by omega, nofun⟩
    · split at h <;> cases h
      · exact ⟨nofun, nofun⟩
      · exact ⟨nofun, fun _ => by omega⟩

theorem levelEnvelope_inRange {ep : Episode} {t start origin steady : Int} {stage : Stage} {p : Nat}
    (hstage : stageAt ep p = some stage) (ht : levelInRange t) (hstart : levelInRange start)
    (horigin : levelInRange origin) (hsteady : levelInRange steady) :
    levelInRange (levelEnvelope ep t stage p start origin steady) := by
  obtain ⟨hentry, hexit⟩ := stageAt_bounds hstage
  cases stage with
  | entry => exact rampPoint_mem (hentry rfl) hstart ht
  | hold => exact ht
  | exit => exact rampPoint_mem (hexit rfl) horigin hsteady

/-- The stages of an application keep the envelopes and the exit origins in range (R58). -/
theorem inStage_inRange {ep : Episode} {steady : PerPhase Nat} {stage : Stage} {p : Nat} {l : Lane} (atTrigger : Bool)
    (hep : ep.kind.inRange = true) (hsteady : ∀ x, getPhase steady x ≤ 20000) (hstage : stageAt ep p = some stage)
    (h : l.Sound levelsInRange) :
    levelsInRange (l.inStage ep steady stage p atTrigger).envelope ∧
      levelsInRange (l.inStage ep steady stage p atTrigger).exitOrigin := by
  unfold Lane.inStage
  split
  · rename_i t hkind
    rw [hkind] at hep
    have ht : levelInRange (t : Int) := levelInRange_ofNat (of_decide_eq_true hep)
    have horigin : levelsInRange (exitOrigins l t stage atTrigger) := by
      unfold exitOrigins
      split
      · split
        · exact levelsInRange_perPhase ht
        · exact h.envelope
      · exact h.origin
    refine ⟨fun x => ?_, horigin⟩
    rw [getPhase_tabPhase]
    split
    · exact levelEnvelope_inRange hstage ht (h.start x) (horigin x) (levelInRange_ofNat (hsteady x))
    · exact levelInRange_zero
  · exact ⟨levelsInRange_perPhase levelInRange_zero, h.origin⟩

theorem levelLaw_levelsInRange {lastComposed : PerPhase Int} {steady : PerPhase Nat} (hcomposed : levelsInRange lastComposed)
    (hsteady : ∀ x, getPhase steady x ≤ 20000) : LevelLaw levelsInRange lastComposed steady := by
  refine ⟨fun ep x => ?_, fun ep stage p atTrigger l hep hstage h => inStage_inRange atTrigger hep hsteady hstage h⟩
  rw [startValues, getPhase_tabPhase]
  split
  · exact hcomposed x
  · exact levelInRange_zero

/-! #### The composer -/

/-- The steady levels, the composed levels and the release origins lie in 0 to 20 000. -/
structure Composer.InRange (c : Composer) : Prop where
  steady : ∀ x, getPhase c.steady x ≤ 20000
  composed : levelsInRange c.lastComposed
  releases : levelsInRange c.releaseOrigin

theorem Composer.inRange_reset : Composer.reset.InRange :=
  ⟨fun x => by rw [Composer.reset, getPhase_perPhase]; exact Nat.zero_le _, levelsInRange_perPhase levelInRange_zero,
    levelsInRange_perPhase levelInRange_zero⟩

theorem softEnvelope_inRange {steady : Nat} (h : steady ≤ 20000) (advance length : Nat) :
    levelInRange (softEnvelope steady advance length) := by
  unfold softEnvelope
  split
  · exact rampPoint_mem (Nat.le_of_lt ‹_›) levelInRange_zero (levelInRange_ofNat h)
  · exact levelInRange_ofNat h

theorem releaseEnvelope_inRange {origin : Int} (h : levelInRange origin) (advance length : Nat) :
    levelInRange (releaseEnvelope origin advance length) := by
  unfold releaseEnvelope
  split
  · exact rampPoint_mem (Nat.le_of_lt ‹_›) h levelInRange_zero
  · exact levelInRange_zero

section
variable {c : Composer} (h : c.InRange)
include h

theorem Composer.inRange_levelDefault (engine : EngineState) (x : Phase) : levelInRange (c.levelDefault engine x) := by
  unfold Composer.levelDefault
  split
  · exact softEnvelope_inRange (h.steady x) _ _
  · exact levelInRange_ofNat (h.steady x)
  · exact releaseEnvelope_inRange (h.releases x) _ _
  · exact levelInRange_zero

theorem Composer.inRange_composedLevel (mode : BitVec 2) (engine : EngineState) {ls : PerLane Lane}
    (hls : ∀ k, (getLane ls k).Sound levelsInRange) (x : Phase) : levelInRange (c.composedLevel mode engine ls x) := by
  unfold Composer.composedLevel
  split
  · split
    · split
      · exact levelInRange_zero
      · exact (hls _).envelope x
    · exact Composer.inRange_levelDefault h engine x
  · exact levelInRange_zero

theorem Composer.inRange_compose (mode : BitVec 2) (engine : EngineState) {ls : PerLane Lane}
    (hls : ∀ k, (getLane ls k).Sound levelsInRange) : (c.compose mode engine ls).InRange :=
  ⟨h.steady, fun x => by
    rw [Composer.compose, getPhase_tabPhase]
    exact Composer.inRange_composedLevel h mode engine hls x, h.releases⟩

theorem Composer.inRange_release (fromClosing : Bool) : (c.release fromClosing).InRange := by
  refine ⟨h.steady, h.composed, ?_⟩
  cases fromClosing with
  | true => exact levelsInRange_perPhase levelInRange_zero
  | false => exact h.composed

theorem Composer.inRange_latch (mode : BitVec 2) (header : List Word) : (c.latch mode header).InRange := by
  refine ⟨fun x => ?_, h.composed, h.releases⟩
  unfold Composer.latch
  cases x <;> (dsimp only [getPhase]; split <;> omega)

theorem Composer.inRange_atStart : c.atStart.InRange :=
  ⟨h.steady, h.composed, levelsInRange_perPhase levelInRange_zero⟩

theorem Composer.inRange_ramped (engine : EngineState) (entered released : Bool) (increment : Nat) :
    (rampedComposer c engine entered released increment).InRange := by
  obtain ⟨hsteady, -, -, hrelease, -⟩ := rampedComposer_kept c engine entered released increment
  have hcomposed : (rampedComposer c engine entered released increment).lastComposed = c.lastComposed := by
    unfold rampedComposer
    split <;> rfl
  exact ⟨hsteady ▸ h.steady, hcomposed ▸ h.composed, hrelease ▸ h.releases⟩

end

theorem Work.composer_inRange_settle {w : Work} (h : w.state.composer.InRange) (i : SampleInputs) :
    (w.settle i).state.composer.InRange := by
  have hprotect : ∀ v : Work, v.state.composer.InRange → (v.protect i).state.composer.InRange := by
    intro v hv
    rw [protect_composer]
    exact ⟨hv.steady, hv.composed, hv.releases⟩
  have hopening : ∀ v : Work, v.state.composer.InRange → v.opening.state.composer.InRange := by
    intro v hv
    have hentered : v.enterProgress.state.composer.InRange := by
      unfold Work.enterProgress
      dsimp only
      split
      · exact hv
      · exact ⟨hv.steady, hv.composed, hv.releases⟩
      · exact hv
      · exact hv
    change v.enterProgress.actOnRelease.state.composer.InRange
    unfold Work.actOnRelease
    dsimp only
    split
    · split
      · exact Composer.inRange_release hentered _
      · exact hentered
    · exact hentered
  refine hprotect _ ?_
  simp only [Work.cycleScan_composer, Work.measure_composer, Work.sampleLines_composer]
  refine hopening _ ?_
  simp only [Work.dropHead_composer, Work.expire_composer, Work.waitTimer_composer, Work.tick_composer]
  exact h

theorem Work.composer_inRange_perform {w : Work} (h : w.state.composer.InRange) (i : SampleInputs)
    (hlanes : ∀ k, (getLane (lanedWork i w).state.lanes k).Sound levelsInRange) :
    (w.perform i).state.composer.InRange := by
  have hlaned : (lanedWork i w).state.composer.InRange := by
    rw [lanedWork_composer]
    exact ⟨h.steady, h.composed, h.releases⟩
  rw [perform_composer]
  exact Composer.inRange_compose (Composer.inRange_ramped hlaned _ _ _ _) _ _ hlanes

/-! #### Latched settings -/

/-- The latched trip count, operate times, peak codes and ceiling keep their clamps (R104, R127, R140). -/
structure State.SettingsInRange (s : State) : Prop where
  tripCount : 1 ≤ s.measure.tripCount ∧ s.measure.tripCount ≤ 255
  operateTimes : 26 ≤ s.relays.closeTime ∧ s.relays.closeTime ≤ 65535 ∧ 26 ≤ s.relays.openTime ∧
    s.relays.openTime ≤ 65535
  peakCodes : ∀ x, getPhase s.synth.peak x ≤ 524287
  ceiling : s.synth.ceiling ≤ 524287

/-- The settings are the same from one state to another. -/
structure State.SameSettings (s t : State) : Prop where
  tripCount : t.measure.tripCount = s.measure.tripCount
  closeTime : t.relays.closeTime = s.relays.closeTime
  openTime : t.relays.openTime = s.relays.openTime
  peak : t.synth.peak = s.synth.peak
  ceiling : t.synth.ceiling = s.synth.ceiling

theorem State.SettingsInRange.of_same {s t : State} (h : s.SettingsInRange) (hsame : s.SameSettings t) :
    t.SettingsInRange :=
  ⟨by rw [hsame.tripCount]; exact h.tripCount, by rw [hsame.closeTime, hsame.openTime]; exact h.operateTimes,
    by rw [hsame.peak]; exact h.peakCodes, by rw [hsame.ceiling]; exact h.ceiling⟩

theorem settingsInRange_powerOn (mode : BitVec 2) (pending : List Instr) : (State.powerOn mode pending).SettingsInRange :=
  ⟨⟨le_refl 1, (by decide : 1 ≤ 255)⟩, (by decide : 26 ≤ 26 ∧ 26 ≤ 65535 ∧ 26 ≤ 26 ∧ 26 ≤ 65535), fun x => by
    change getPhase (perPhase 0) x ≤ 524287
    rw [getPhase_perPhase]; exact Nat.zero_le _, Nat.zero_le _⟩

theorem u8_le (ws : List Word) (offset : Nat) : u8 ws offset ≤ 255 := Nat.le_of_lt_succ (byteAt ws offset).isLt

theorem u16_le (ws : List Word) (offset : Nat) : u16 ws offset ≤ 65535 := by
  have hlow := u8_le ws offset
  have hhigh := u8_le ws (offset + 1)
  unfold u16
  omega

theorem settingsInRange_loadDone (s : State) (header : List Word) (readCount : Word) :
    (s.loadDone header readCount).SettingsInRange := by
  have htrip := u8_le header 50
  have hclose := u16_le header 54
  have hopen := u16_le header 56
  refine ⟨?_, ?_, fun x => ?_, Nat.min_le_right _ _⟩
  · change 1 ≤ max 1 (u8 header 50) ∧ max 1 (u8 header 50) ≤ 255
    omega
  · change 26 ≤ max 26 (u16 header 54) ∧ max 26 (u16 header 54) ≤ 65535 ∧ 26 ≤ max 26 (u16 header 56) ∧
      max 26 (u16 header 56) ≤ 65535
    omega
  · change getPhase (s.synth.latch s.control.mode header).peak x ≤ maxCode
    unfold Synth.latch
    cases x <;> (dsimp only [getPhase]; split <;> omega)

theorem sameSettings_sampleWork (i : SampleInputs) (s : State) (hrst : s.rstLow = false) :
    s.SameSettings (sampleWork i s).state := by
  rw [sampleWork_eq i s hrst]
  have hmeasured : ∀ w : Work, w.measure.state.measure.tripCount = w.state.measure.tripCount := fun w =>
    (measured_facts w.state.measure w.state.control.mode w.opened.live w.cycleStart w.restart w.state.synth.cycleClips
      (decide (w.opened = .running))).1
  have hsynth : ∀ w : Work, w.measure.state.synth.peak = w.state.synth.peak ∧
      w.measure.state.synth.ceiling = w.state.synth.ceiling := by
    intro w
    unfold Work.measure
    dsimp only
    split <;> exact ⟨rfl, rfl⟩
  constructor
  · simp [Work.close, Work.settle, hmeasured]
  · simp [Work.close, perform_relays, Relays.command, Relays.advance, Work.settle]
  · simp [Work.close, perform_relays, Relays.command, Relays.advance, Work.settle]
  · simp [Work.close, perform_synth, Synth.countClips, Work.settle, hsynth]
  · simp [Work.close, perform_synth, Synth.countClips, Work.settle, hsynth]

theorem State.SameBlocks.settings {s t : State} (h : s.SameBlocks t) : s.SameSettings t :=
  ⟨by rw [h.measure], by rw [h.relays], by rw [h.relays], by rw [h.synth], by rw [h.synth]⟩

/-! #### The part -/

/-- The levels of the part, block by block. -/
structure State.Levels (s : State) : Prop where
  sound : s.Sound levelsInRange
  composer : s.composer.InRange
  settings : s.SettingsInRange

theorem State.levelsInRange_iff (s : State) : s.LevelsInRange ↔ s.Levels := by
  constructor
  · intro h
    exact ⟨State.sound_iff.2 ⟨h.kinds, h.starts, h.envelopes, h.origins⟩, ⟨h.steady, h.composed, h.releases⟩,
      ⟨h.tripCount, h.operateTimes, h.peakCodes, h.ceiling⟩⟩
  · rintro ⟨hsound, hcomposer, hsettings⟩
    obtain ⟨hkinds, hstarts, henvelopes, horigins⟩ := State.sound_iff.1 hsound
    exact ⟨hkinds, hstarts, henvelopes, horigins, hcomposer.steady, hcomposer.composed, hcomposer.releases,
      hsettings.tripCount, hsettings.operateTimes, hsettings.peakCodes, hsettings.ceiling⟩

theorem State.Levels.law {s : State} (h : s.Levels) :
    LevelLaw levelsInRange s.composer.lastComposed s.composer.steady :=
  levelLaw_levelsInRange h.composer.composed h.composer.steady

theorem State.composer_inRange_sampleWork {s : State} (h : s.Levels) (i : SampleInputs) (hrst : s.rstLow = false) :
    (sampleWork i s).state.composer.InRange := by
  rw [sampleWork_eq i s hrst]
  simp only [Work.close, Work.dropHead_composer, Work.enqueue_composer, Work.expire_composer, Work.report_composer]
  have hsettled := Work.composer_inRange_settle (w := { state := s }) h.composer i
  exact Work.composer_inRange_perform hsettled i
    (Work.sound_laned (Work.sound_settle (w := { state := s }) h.sound i) i
      (levelLaw_levelsInRange hsettled.composed hsettled.steady))

theorem State.composer_inRange_effect {s t : State} {c : Instr} (h : s.Levels) (heffect : Effect s c t) :
    t.composer.InRange := by
  have hc := h.composer
  cases heffect with
  | powerOn | softReset => exact Composer.inRange_reset
  | start => exact Composer.inRange_atStart hc
  | ignored | heldLow | release | nudge | clear | deferClear | flags | mask | planBase | stop | resume | receive
  | disowned => exact hc
  | sample _ i hrst => exact State.composer_inRange_sampleWork h i hrst
  | grant _ hgrant => exact (sameBlocks_granted hgrant).composer ▸ hc
  | failed => exact (State.fail_composer s).symm ▸ hc
  | completed tr _ _ hdone =>
    obtain ⟨header, word, -, rfl⟩ | hsame := completed_cases hdone
    · exact Composer.inRange_latch hc _ header.toList
    · rw [hsame.composer]; exact hc

theorem State.settingsInRange_effect {s t : State} {c : Instr} (h : s.SettingsInRange) (heffect : Effect s c t) :
    t.SettingsInRange := by
  cases heffect with
  | powerOn mode1 mode0 => exact settingsInRange_powerOn _ _
  | softReset =>
    have hreset := settingsInRange_powerOn s.control.mode s.pending
    exact ⟨hreset.tripCount, hreset.operateTimes, hreset.peakCodes, hreset.ceiling⟩
  | ignored | start | heldLow | release | nudge | clear | deferClear | flags | mask | planBase | stop | resume
  | disowned => exact h.of_same ⟨rfl, rfl, rfl, rfl, rfl⟩
  | receive frame =>
    refine h.of_same ⟨?_, rfl, rfl, rfl, rfl⟩
    change (s.measure.receive frame).tripCount = s.measure.tripCount
    unfold Measure.receive
    split <;> rfl
  | sample _ i hrst => exact h.of_same (sameSettings_sampleWork i s hrst)
  | grant _ hgrant => exact h.of_same (sameBlocks_granted hgrant).settings
  | failed =>
    refine h.of_same ⟨?_, ?_, ?_, ?_, ?_⟩ <;> simp [State.failNow]
  | completed tr _ _ hdone =>
    obtain ⟨header, word, -, rfl⟩ | hsame := completed_cases hdone
    · exact settingsInRange_loadDone _ header.toList word
    · exact h.of_same ⟨hsame.settings.tripCount, hsame.settings.closeTime, hsame.settings.openTime,
        hsame.settings.peak, hsame.settings.ceiling⟩

/-- Settles O59. -/
theorem levelsStayInRange : Obligations.LevelsStayInRange := by
  intro s t h hstep
  obtain rfl | ⟨c, rest, -, hexec⟩ := step_cases hstep
  · exact h
  · obtain ⟨hsound, hcomposer, hsettings⟩ := (State.levelsInRange_iff s).1 h
    have hlevels : ({ s with pending := rest } : State).Levels :=
      ⟨hsound.same rfl rfl, hcomposer,
        ⟨hsettings.tripCount, hsettings.operateTimes, hsettings.peakCodes, hsettings.ceiling⟩⟩
    have heffect := effect_of_exec hexec
    exact (State.levelsInRange_iff t).2
      ⟨hlevels.sound.effect (levelsInRange_perPhase levelInRange_zero) hlevels.law heffect,
        State.composer_inRange_effect hlevels heffect, State.settingsInRange_effect hlevels.settings heffect⟩

end Sys2Proof.Machine
end

section
/-! ### The lanes, claims, relays, progress and load agree with the engine state (R4, R45, R81, R149) -/

namespace Sys2Proof.Machine

/-! #### One lane against the engine state -/

/-- A lane against the engine state, with whether the transaction in flight is a fetch that it still wants. -/
structure Lane.Fits (engine : EngineState) (wanted : Bool) (l : Lane) : Prop where
  held : l.state.heldIn engine = true
  slots : l.slotsFit = true
  request : l.request.isSome = true → l.mayFetch = true
  wanted : wanted = true → l.mayFetch = true ∧ l.request = none

/-- From one lane to the other the claims do not change: the state and episode are the same, or neither is ACTIVE. -/
def Lane.KeepsClaims (l m : Lane) : Prop :=
  (m.state = l.state ∧ m.current = l.current) ∨ (l.state ≠ .active ∧ m.state ≠ .active)

theorem Lane.KeepsClaims.trans {l m n : Lane} (h : l.KeepsClaims m) (g : m.KeepsClaims n) : l.KeepsClaims n := by
  obtain ⟨hstate, hcurrent⟩ | ⟨hl, hm⟩ := h
  · obtain ⟨hstate', hcurrent'⟩ | ⟨hm, hn⟩ := g
    · exact .inl ⟨hstate'.trans hstate, hcurrent'.trans hcurrent⟩
    · exact .inr ⟨hstate ▸ hm, hn⟩
  · obtain ⟨hstate', -⟩ | ⟨-, hn⟩ := g
    · exact .inr ⟨hl, hstate' ▸ hm⟩
    · exact .inr ⟨hl, hn⟩

theorem claims_of_not_active {l : Lane} (h : l.state ≠ .active) (x : Phase) (aspect : Kind → Bool) :
    l.claims x aspect = false ∧ l.claimsFreq = false := by
  unfold Lane.claims Lane.claimsFreq
  cases hstate : l.state <;> first | exact absurd hstate h | exact ⟨rfl, rfl⟩

theorem Lane.KeepsClaims.claims_eq {l m : Lane} (h : l.KeepsClaims m) (x : Phase) (aspect : Kind → Bool) :
    m.claims x aspect = l.claims x aspect ∧ m.claimsFreq = l.claimsFreq := by
  obtain ⟨hstate, hcurrent⟩ | ⟨hl, hm⟩ := h
  · unfold Lane.claims Lane.claimsFreq
    rw [hstate, hcurrent]
    exact ⟨rfl, rfl⟩
  · obtain ⟨hclaims, hfreq⟩ := claims_of_not_active hl x aspect
    obtain ⟨hclaims', hfreq'⟩ := claims_of_not_active hm x aspect
    exact ⟨hclaims'.trans hclaims.symm, hfreq'.trans hfreq.symm⟩

theorem claimsOf_congr {ls ms : PerLane Lane} (h : ∀ k, (getLane ls k).KeepsClaims (getLane ms k)) :
    claimsOf ms = claimsOf ls := by
  have hclaims : ∀ x aspect k, (getLane ms k).claims x aspect = (getLane ls k).claims x aspect :=
    fun x aspect k => ((h k).claims_eq x aspect).1
  have hfreq : ∀ k, (getLane ms k).claimsFreq = (getLane ls k).claimsFreq :=
    fun k => ((h k).claims_eq .A Kind.claimsLevel).2
  simp only [claimsOf, hclaims, hfreq]

theorem fits_reset (engine : EngineState) : Lane.reset.Fits engine false := ⟨rfl, rfl, nofun, nofun⟩

section
variable {engine : EngineState} {wanted : Bool} {l : Lane} (h : l.Fits engine wanted)
include h

theorem Lane.Fits.unwanted : l.Fits engine false := ⟨h.held, h.slots, h.request, nofun⟩

/-- A lane that may hold no fetch holds none. -/
theorem Lane.Fits.none_of (hfetch : l.mayFetch = false) : l.request = none ∧ wanted = false := by
  constructor
  · cases hrequest : l.request with
    | none => rfl
    | some f => exact absurd (h.request (by rw [hrequest]; rfl)) (by rw [hfetch]; exact Bool.false_ne_true)
  · cases wanted with
    | false => rfl
    | true => exact absurd (h.wanted rfl).1 (by rw [hfetch]; exact Bool.false_ne_true)

/-- A fetch request that is withdrawn. -/
theorem Lane.Fits.withdrawn (stop : Bool) : ({ l with pendingStop := stop, request := none } : Lane).Fits engine false :=
  ⟨h.held, h.slots, nofun, nofun⟩

end

theorem fits_halted (l : Lane) (engine : EngineState) : l.halted.Fits engine false := ⟨rfl, rfl, nofun, nofun⟩

theorem fits_emptied (l : Lane) (engine : EngineState) :
    ({ l.emptied with state := .idle } : Lane).Fits engine false := ⟨rfl, rfl, nofun, nofun⟩

/-- The states in which a lane has a current episode (R45). -/
def LaneState.occupied : LaneState → Bool
  | .waiting => true
  | .active => true
  | .gap => true
  | .idle => false
  | .fetching => false
  | .halted => false

theorem slotsFit_of_occupied {l : Lane} (h : l.state.occupied = true) : l.slotsFit = l.current.isSome := by
  unfold Lane.slotsFit
  cases hstate : l.state <;> first | rfl | (rw [hstate] at h; cases h)

theorem slotsFit_of_not_occupied {l : Lane} (h : l.state.occupied = false) :
    l.slotsFit = (l.current.isNone && l.next == .empty) := by
  unfold Lane.slotsFit
  cases hstate : l.state <;> first | rfl | (rw [hstate] at h; cases h)

theorem mayFetch_of_occupied {l : Lane} (h : l.state.occupied = true) : l.mayFetch = (l.next == .fetching) := by
  unfold Lane.mayFetch
  cases hstate : l.state <;> first | rfl | (rw [hstate] at h; cases h)

/-- A lane that needs an episode is IDLE, or has a current episode and an EMPTY next slot (R7). -/
theorem needsEpisode_cases {l : Lane} (h : l.needsEpisode = true) :
    l.state = .idle ∨ (l.state.occupied = true ∧ l.next = .empty) := by
  unfold Lane.needsEpisode at h
  split at h
  · exact .inl ‹_›
  · rename_i hstate _
    exact .inr ⟨by rw [hstate]; rfl, eq_of_beq (Bool.and_eq_true_iff.1 h).2⟩
  · rename_i hstate _
    exact .inr ⟨by rw [hstate]; rfl, eq_of_beq (Bool.and_eq_true_iff.1 h).2⟩
  · rename_i hstate _
    exact .inr ⟨by rw [hstate]; rfl, eq_of_beq (Bool.and_eq_true_iff.1 h).2⟩
  · cases h

theorem mayFetch_of_needsEpisode {l : Lane} (h : l.needsEpisode = true) : l.mayFetch = false := by
  obtain hstate | ⟨hoccupied, hnext⟩ := needsEpisode_cases h
  · unfold Lane.mayFetch; rw [hstate]
  · rw [mayFetch_of_occupied hoccupied, hnext]; rfl

/-- A lane that holds a fetch is FETCHING, or has a current episode and its next slot FETCHING. -/
theorem mayFetch_cases {l : Lane} (h : l.mayFetch = true) :
    l.state = .fetching ∨ (l.state.occupied = true ∧ l.next = .fetching) := by
  unfold Lane.mayFetch at h
  cases hstate : l.state <;> rw [hstate] at h <;>
    first | exact .inl rfl | exact .inr ⟨rfl, eq_of_beq h⟩ | cases h

theorem not_halted_of_mayFetch {l : Lane} (h : l.mayFetch = true) : l.state ≠ .halted := by
  intro hstate
  unfold Lane.mayFetch at h
  rw [hstate] at h
  cases h

section
variable {engine : EngineState} {wanted : Bool} {l : Lane} (h : l.Fits engine wanted)
include h

/-- A next slot that fetches nothing, in a lane with a current episode. -/
theorem Lane.Fits.setNext (hoccupied : l.state.occupied = true) {next : NextSlot} :
    ({ l with next := next, request := none } : Lane).Fits engine false := by
  refine ⟨h.held, ?_, nofun, nofun⟩
  have hslots := h.slots
  rw [slotsFit_of_occupied hoccupied] at hslots
  rw [slotsFit_of_occupied (l := { l with next := next, request := none }) hoccupied]
  exact hslots

/-- A next slot that begins to be filled, in a lane with a current episode. -/
theorem Lane.Fits.fetchNext (hoccupied : l.state.occupied = true) (f : Fetch) :
    ({ l with next := .fetching, request := some f } : Lane).Fits engine false := by
  obtain ⟨hheld, hslots, -, -⟩ := h.setNext hoccupied (next := .fetching)
  refine ⟨hheld, hslots, fun _ => ?_, nofun⟩
  rw [mayFetch_of_occupied (l := { l with next := .fetching, request := some f }) hoccupied]
  rfl

theorem fits_refuse (e : LaneEnv) (cause : Refused) (offending index : Half) (hhalted : l.state ≠ .halted) :
    (refuse e cause offending index l).lane.Fits engine false ∧
      l.KeepsClaims (refuse e cause offending index l).lane := by
  unfold refuse
  split
  · rename_i hstate
    refine ⟨fits_halted l engine, .inr ⟨?_, nofun⟩⟩
    obtain hstate | hstate := hstate <;> rw [hstate] <;> nofun
  · rename_i hstate
    refine ⟨h.setNext ?_, .inl ⟨rfl, rfl⟩⟩
    cases hs : l.state <;> simp_all [LaneState.occupied]

theorem fits_requestCue (hopen : engine.cueOpen = true) (hneeds : l.needsEpisode = true) :
    l.requestCue.Fits engine false ∧ l.KeepsClaims l.requestCue := by
  have hslots := h.slots
  unfold Lane.requestCue
  split
  · exact ⟨h.unwanted, .inl ⟨rfl, rfl⟩⟩
  · obtain hstate | ⟨hoccupied, -⟩ := needsEpisode_cases hneeds
    · rw [if_pos hstate]
      rw [slotsFit_of_not_occupied (by rw [hstate]; rfl)] at hslots
      exact ⟨⟨hopen, hslots, fun _ => rfl, nofun⟩, .inr ⟨by rw [hstate]; nofun, nofun⟩⟩
    · rw [if_neg (fun hstate => by rw [hstate] at hoccupied; cases hoccupied)]
      exact ⟨h.fetchNext hoccupied .cue, .inl ⟨rfl, rfl⟩⟩

theorem fits_cueTest {e : LaneEnv} (he : e.engine = engine) :
    (cueTest e l).lane.Fits engine wanted ∧ l.KeepsClaims (cueTest e l).lane := by
  unfold cueTest
  split
  · rename_i hneeds
    obtain ⟨hopen, hneeds⟩ := Bool.and_eq_true_iff.1 hneeds
    obtain ⟨-, rfl⟩ := h.none_of (mayFetch_of_needsEpisode hneeds)
    split
    · exact ⟨h, .inl ⟨rfl, rfl⟩⟩
    · split
      · exact fits_requestCue h (he ▸ hopen) hneeds
      · refine fits_refuse h e _ _ _ ?_
        obtain hstate | ⟨hoccupied, -⟩ := needsEpisode_cases hneeds
        · rw [hstate]; nofun
        · intro hstate; rw [hstate] at hoccupied; cases hoccupied
  · exact ⟨h, .inl ⟨rfl, rfl⟩⟩

theorem fits_withdrawCue (hfetch : l.mayFetch = true) :
    l.withdrawCue.Fits engine false ∧ l.KeepsClaims l.withdrawCue := by
  have hslots := h.slots
  unfold Lane.withdrawCue
  obtain hstate | ⟨hoccupied, -⟩ := mayFetch_cases hfetch
  · rw [if_pos hstate]
    rw [slotsFit_of_not_occupied (by rw [hstate]; rfl)] at hslots
    exact ⟨⟨rfl, hslots, nofun, nofun⟩, .inr ⟨by rw [hstate]; nofun, nofun⟩⟩
  · rw [if_neg (fun hstate => by rw [hstate] at hoccupied; cases hoccupied)]
    exact ⟨h.setNext hoccupied, .inl ⟨rfl, rfl⟩⟩

end

theorem fits_awaiting (l : Lane) (ep : Episode) (late : Bool) {engine : EngineState} (hopen : engine.cueOpen = true) :
    (l.awaiting ep late).Fits engine false := ⟨hopen, rfl, nofun, nofun⟩

section
variable {engine : EngineState} {wanted : Bool} {l : Lane} (h : l.Fits engine wanted)
include h

theorem fits_completeEpisode {e : LaneEnv} (he : e.engine = engine) (ep : Episode) (hfetch : l.mayFetch = true) :
    (completeEpisode e ep l).lane.Fits engine false ∧ l.KeepsClaims (completeEpisode e ep l).lane := by
  have hheld := h.held
  unfold completeEpisode
  obtain hstate | ⟨hoccupied, -⟩ := mayFetch_cases hfetch
  · rw [if_pos hstate]
    rw [hstate] at hheld
    have hawaits : l.KeepsClaims (l.awaiting ep l.late) := .inr ⟨by rw [hstate]; nofun, nofun⟩
    have hfits := fits_awaiting l ep l.late (engine := engine) hheld
    rw [becomeCurrent_eq]
    split
    · rename_i n _
      exact ⟨hfits.fetchNext rfl (.episode n), hawaits⟩
    · obtain ⟨htested, hclaims⟩ := fits_cueTest hfits he
      exact ⟨htested, hawaits.trans hclaims⟩
  · rw [if_neg (fun hstate => by rw [hstate] at hoccupied; cases hoccupied)]
    exact ⟨h.setNext hoccupied, .inl ⟨rfl, rfl⟩⟩

/-- The lane work that a completed read hands on keeps the lane, which may fetch, in agreement. -/
theorem fits_laneLoad {e : LaneEnv} (he : e.engine = engine) {P : Episode → Prop} {g : LaneEnv → Lane → LaneOut}
    (hg : LaneLoad P g) (hfetch : l.mayFetch = true) :
    (g e l).lane.Fits engine false ∧ l.KeepsClaims (g e l).lane := by
  cases hg with
  | request f => exact ⟨⟨h.held, h.slots, fun _ => hfetch, nofun⟩, .inl ⟨rfl, rfl⟩⟩
  | refuse cause offending index => exact fits_refuse h e cause offending index (not_halted_of_mayFetch hfetch)
  | complete ep => exact fits_completeEpisode h he ep hfetch

theorem Lane.Fits.move {e : SampleEnv} (he : e.engine = engine) {m : Lane} (hmove : LaneMove e l m) :
    m.Fits engine wanted := by
  have hheld := h.held
  have hslots := h.slots
  have hrequest := h.request
  have hwanted := h.wanted
  cases hmove with
  | cueTest => exact (fits_cueTest h (e := e.toLaneEnv) he).1
  | idles hstate hnext =>
    obtain ⟨hnone, rfl⟩ := h.none_of (by unfold Lane.mayFetch; rw [hstate, hnext]; rfl)
    exact ⟨rfl, by simp [Lane.slotsFit, hnext], by simp [hnone], nofun⟩
  | fetches hstate hnext =>
    have hfetch : l.mayFetch = true := by unfold Lane.mayFetch; rw [hstate, hnext]; rfl
    rw [hstate] at hheld
    refine ⟨?_, rfl, fun _ => rfl, fun hw => ⟨rfl, (hwanted hw).2⟩⟩
    rw [eq_of_beq hheld]
    rfl
  | awaits ep hstate hnext =>
    obtain ⟨-, rfl⟩ := h.none_of (by unfold Lane.mayFetch; rw [hstate, hnext]; rfl)
    rw [hstate] at hheld
    exact fits_awaiting l ep false (by rw [eq_of_beq hheld]; rfl)
  | halts cause index hstate hnext =>
    obtain ⟨-, rfl⟩ := h.none_of (by unfold Lane.mayFetch; rw [hstate, hnext]; rfl)
    exact fits_halted _ engine
  | requestsNext n hstate hnext =>
    obtain ⟨-, rfl⟩ := h.none_of (by unfold Lane.mayFetch; rw [hstate, hnext]; rfl)
    exact h.fetchNext (by rw [hstate]; rfl) (.episode n)
  | unstages | advances | marks => exact ⟨hheld, hslots, hrequest, hwanted⟩
  | waitsAgain hstate =>
    obtain hstate | hstate := hstate <;>
    · simp only [Lane.slotsFit, Lane.mayFetch, hstate] at hslots hrequest hwanted
      rw [hstate] at hheld
      exact ⟨by rw [eq_of_beq hheld]; rfl, hslots, hrequest, hwanted⟩
  | entersGap hstate =>
    simp only [Lane.slotsFit, Lane.mayFetch, hstate] at hslots hrequest hwanted
    rw [hstate] at hheld
    exact ⟨hheld, hslots, hrequest, hwanted⟩
  | begins ep iref hstate hengine =>
    simp only [Lane.slotsFit, Lane.mayFetch, hstate] at hslots hrequest hwanted
    exact ⟨by rw [← he, hengine]; rfl, hslots, hrequest, hwanted⟩
  | stages ep stage p atTrigger =>
    unfold Lane.inStage
    split <;> exact ⟨hheld, hslots, hrequest, hwanted⟩
  | flickers depth interval =>
    unfold Lane.flickerStep
    split <;> exact ⟨hheld, hslots, hrequest, hwanted⟩

theorem Lane.Fits.moves {e : SampleEnv} (he : e.engine = engine) {m : Lane} (hmoves : LaneMoves e l m) :
    m.Fits engine wanted := hmoves.keeps (fun _ _ hmove hl => hl.move he hmove) h

theorem Lane.Fits.discarding (discards : Bool) : l.Fits engine (wanted && !discards) := by
  cases discards with
  | true => rw [Bool.not_true, Bool.and_false]; exact h.unwanted
  | false => rw [Bool.not_false, Bool.and_true]; exact h

/-- A HALTED lane fits every engine state. -/
theorem Lane.Fits.of_halted (hstate : l.state = .halted) (engine' : EngineState) : l.Fits engine' wanted :=
  ⟨by rw [hstate]; rfl, h.slots, h.request, h.wanted⟩

/-- A lane that no running application holds fits a state in which lanes take cue entries. -/
theorem Lane.Fits.advance {engine' : EngineState} (hrunning : engine ≠ .running) (hopen : engine'.cueOpen = true) :
    l.Fits engine' wanted := by
  refine ⟨?_, h.slots, h.request, h.wanted⟩
  have hheld := h.held
  cases hstate : l.state with
  | idle | halted => rfl
  | fetching | waiting => exact hopen
  | active | gap =>
    rw [hstate] at hheld
    exact absurd (eq_of_beq hheld) hrunning

theorem Lane.Fits.rmsTaken (e : SampleEnv) : (l.rmsTaken e).Fits engine wanted := by
  obtain heq | heq := l.rmsTaken_cases e <;> rw [heq]
  · exact h
  · unfold Lane.takeRms
    split
    · dsimp only
      split <;> exact ⟨h.held, h.slots, h.request, h.wanted⟩
    · exact h

/-- A lane's work leaves it in agreement with the engine state that it reads: one that has been released or halted fits
every engine state. -/
theorem Lane.Fits.laneWork {e : SampleEnv} (he : e.protection = false → e.released = false → e.engine = engine) :
    (laneWork e l).lane.Fits e.engine (wanted && !(laneWork e l).discards) := by
  have htaken := h.rmsTaken e
  have hkept : (l.rmsTaken e).state = l.state := by
    obtain heq | heq := l.rmsTaken_cases e <;> rw [heq]
    exact (takeRms_kept l e.figures).1
  have hcourse := laneWork_course e l
  generalize (Sys2Proof.Machine.laneWork e l).lane = out, (Sys2Proof.Machine.laneWork e l).discards = d at *
  cases hcourse with
  | protectedHalted _ _ hstate | releasedHalted _ _ _ hstate =>
    exact (htaken.of_halted (hkept.trans hstate) e.engine).discarding d
  | protects | releasedStops | stops => rw [Bool.not_true, Bool.and_false]; exact fits_halted _ e.engine
  | releases => rw [Bool.not_true, Bool.and_false]; exact fits_emptied _ e.engine
  | works _ hprotection hreleased _ hmoves =>
    rw [he hprotection hreleased]
    exact (htaken.moves (he hprotection hreleased) hmoves).discarding d

end

/-- The work of the lanes leaves each in agreement with the engine state that it reads. -/
theorem lanesWork_fits {engine : EngineState} {wanted : LaneId → Bool} {envs : PerLane SampleEnv} {ls : PerLane Lane}
    (henvs : ∀ k, (getLane envs k).protection = false → (getLane envs k).released = false →
      (getLane envs k).engine = engine) (h : ∀ k, (getLane ls k).Fits engine (wanted k)) (k : LaneId) :
    (getLane (lanesWork envs ls) k).lane.Fits (getLane envs k).engine
      (wanted k && !(getLane (lanesWork envs ls) k).discards) := by
  refine lanesWork_induction (fun k o => o.lane.Fits (getLane envs k).engine (wanted k && !o.discards)) envs ls
    (fun k => (h k).laneWork (henvs k)) ?_ ?_ k
  · intro k o ep ho hstate hcurrent hengine
    have hfired := (ho.moves rfl (fire_moves (getLane envs k) hstate hcurrent hengine)).discarding
      (fire (getLane envs k) ep o.lane).discards
    rw [Bool.and_assoc, ← Bool.not_or] at hfired
    exact hfired
  · intro k o ho
    exact ⟨ho.held, ho.slots, ho.request, ho.wanted⟩

end Sys2Proof.Machine
end

section
/-! ### The whole part against the engine state

The frame lemmas of the agreement, its keeping by each effect, and by each stage of a sample event. -/

namespace Sys2Proof.Machine

/-! #### The agreement and its frames -/

section
variable {s : State} (h : s.EngineAgrees)
include h

theorem State.EngineAgrees.fits (k : LaneId) : (getLane s.lanes k).Fits s.control.engine (s.port.wantedBy k) :=
  ⟨h.states k, h.slots k, h.requests k, h.wanted k⟩

/-- What the rest of the agreement needs when the lanes and the transaction change and the engine state does not. -/
theorem State.EngineAgrees.change {t : State} (hcontrol : t.control = s.control) (hrelays : t.relays.relay = s.relays.relay)
    (hclaims : t.composer.claims = claimsOf t.lanes)
    (hlanes : ∀ k, (getLane t.lanes k).Fits s.control.engine (t.port.wantedBy k))
    (hload : t.port.loadRequest = true ∨ t.port.loadInFlight = true → s.control.engine = .loading)
    (honce : t.port.loadRequest = true → t.port.loadInFlight = false) : t.EngineAgrees where
  states k := by rw [hcontrol]; exact (hlanes k).held
  slots k := (hlanes k).slots
  requests k := (hlanes k).request
  wanted k := (hlanes k).wanted
  claims := hclaims
  progress := by rw [hcontrol]; exact h.progress
  opened := by unfold allPresent; rw [hcontrol, hrelays]; exact h.opened
  deferred := by rw [hcontrol]; exact h.deferred
  relays := by rw [hcontrol, hrelays]; exact h.relays
  absent := by rw [hcontrol, hrelays]; exact h.absent
  load := by rw [hcontrol]; exact hload
  once := honce

/-- A change that leaves the fields of the agreement keeps it. -/
theorem State.EngineAgrees.same {t : State} (hcontrol : t.control = s.control) (hrelays : t.relays.relay = s.relays.relay)
    (hclaims : t.composer.claims = s.composer.claims) (hlanes : t.lanes = s.lanes)
    (hrequest : t.port.loadRequest = s.port.loadRequest) (hslot : ∀ k, t.port.wantedBy k = s.port.wantedBy k)
    (hflight : t.port.loadInFlight = s.port.loadInFlight) : t.EngineAgrees :=
  h.change hcontrol hrelays (by rw [hclaims, hlanes]; exact h.claims)
    (fun k => by rw [hlanes, hslot]; exact h.fits k) (by rw [hrequest, hflight]; exact h.load)
    (by rw [hrequest, hflight]; exact h.once)

/-- Work on one lane that leaves its claims, and a wanted fetch, as they are. -/
theorem State.EngineAgrees.setLane {k : LaneId} {l : Lane}
    (hl : l.Fits s.control.engine (s.port.wantedBy k)) (hclaims : (getLane s.lanes k).KeepsClaims l) :
    ({ s with lanes := setLane s.lanes k l } : State).EngineAgrees := by
  refine h.change rfl rfl ?_ (fun j => ?_) h.load h.once
  · refine h.claims.trans (claimsOf_congr fun j => ?_).symm
    by_cases hj : j = k
    · subst hj; rw [getLane_setLane_same]; exact hclaims
    · rw [getLane_setLane_of_ne _ hj]; exact .inl ⟨rfl, rfl⟩
  · by_cases hj : j = k
    · subst hj; rw [getLane_setLane_same]; exact hl
    · rw [getLane_setLane_of_ne _ hj]; exact h.fits j

theorem State.EngineAgrees.runLane {k : LaneId} {f : LaneEnv → Lane → LaneOut}
    (hl : (f (s.laneEnv k) (getLane s.lanes k)).lane.Fits s.control.engine (s.port.wantedBy k))
    (hclaims : (getLane s.lanes k).KeepsClaims (f (s.laneEnv k) (getLane s.lanes k)).lane) :
    (s.runLane k f).EngineAgrees := (h.setLane hl hclaims).same rfl rfl rfl rfl rfl (fun _ => rfl) rfl

theorem State.EngineAgrees.runCueTest (k : LaneId) : (s.runLane k cueTest).EngineAgrees := by
  obtain ⟨hfits, hclaims⟩ := fits_cueTest (h.fits k) (e := s.laneEnv k) rfl
  exact h.runLane hfits hclaims

theorem State.EngineAgrees.cueTests : s.cueTests.EngineAgrees := by
  unfold State.cueTests
  induction allLanes generalizing s with
  | nil => exact h
  | cons k rest ih => exact ih (h.runCueTest k)

/-- Outside LOADING no load is under way. -/
theorem State.EngineAgrees.no_load (hengine : s.control.engine ≠ .loading) :
    s.port.loadRequest = false ∧ s.port.loadInFlight = false := by
  constructor
  · exact Bool.eq_false_iff.2 fun hload => hengine (h.load (.inl hload))
  · exact Bool.eq_false_iff.2 fun hload => hengine (h.load (.inr hload))

/-- Outside the live states no relay output is driven. -/
theorem State.EngineAgrees.no_drive (hengine : s.control.engine.live = false) (x : Phase) :
    (getPhase s.relays.relay x).driveOutput = false :=
  Bool.eq_false_iff.2 fun hdrive => Bool.false_ne_true (hengine.symm.trans (h.relays x hdrive))

theorem State.EngineAgrees.not_deferred (hengine : s.control.engine ≠ .tripped) : s.control.deferredClear = false :=
  Bool.eq_false_iff.2 fun hclear => hengine (h.deferred hclear)

/-- A state that calls for no progress has none due. -/
theorem State.EngineAgrees.no_progress (hclosing : s.control.engine ≠ .closing) (hsoft : s.control.engine ≠ .softstart)
    (hreleasing : s.control.engine ≠ .releasing) (hclear : s.control.deferredClear = false) :
    s.control.progress = .none := by
  have hfits := h.progress
  unfold Control.progressFits at hfits
  cases hprogress : s.control.progress with
  | none => rfl
  | softstart => rw [hprogress] at hfits; exact absurd (eq_of_beq hfits) hclosing
  | running => rw [hprogress] at hfits; exact absurd (eq_of_beq hfits) hsoft
  | standby =>
    rw [hprogress, hclear, Bool.and_false, Bool.or_false] at hfits
    exact absurd (eq_of_beq hfits) hreleasing

end

theorem wantedBy_of_idle {p : Port} (h : p.slot = none) (k : LaneId) : p.wantedBy k = false := by
  unfold Port.wantedBy; rw [h]

theorem loadInFlight_of_idle {p : Port} (h : p.slot = none) : p.loadInFlight = false := by
  unfold Port.loadInFlight; rw [h]

theorem slot_marks_congr {p q : Port} (h : p.slot = q.slot) :
    (∀ k, p.wantedBy k = q.wantedBy k) ∧ p.loadInFlight = q.loadInFlight := by
  unfold Port.wantedBy Port.loadInFlight
  rw [h]
  exact ⟨fun _ => rfl, rfl⟩

/-- What a transaction in flight is wanted for, by its kind (R9, R17). -/
theorem wantedBy_of_slot {p : Port} {tr : Transaction} (h : p.slot = some tr) (horphan : tr.orphan = false)
    {k : LaneId} {f : Fetch} (hkind : tr.kind = .laneFetch k f true) : p.wantedBy k = true := by
  unfold Port.wantedBy
  rw [h]
  simp [hkind, horphan]

theorem wantedBy_discard (p : Port) (ks : LaneId → Bool) (k : LaneId) :
    (p.discardFetches ks).wantedBy k = (p.wantedBy k && !ks k) := by
  unfold Port.wantedBy Port.discardFetches
  cases p.slot with
  | none => rfl
  | some tr =>
    dsimp only [Option.map]
    cases tr.kind with
    | laneFetch j f w =>
      by_cases hj : j = k
      · subst hj; simp [BusKind.unwanted, Bool.and_assoc]
      · have hother : (j == k) = false := beq_eq_false_iff_ne.2 hj
        simp [BusKind.unwanted, hother]
    | _ => rfl

theorem loadInFlight_discard (p : Port) (ks : LaneId → Bool) : (p.discardFetches ks).loadInFlight = p.loadInFlight := by
  unfold Port.loadInFlight Port.discardFetches
  cases p.slot with
  | none => rfl
  | some tr =>
    dsimp only [Option.map]
    cases tr.kind <;> rfl

theorem requestScan_marks (p : Port) :
    (∀ k, p.requestScan.wantedBy k = p.wantedBy k) ∧ p.requestScan.loadInFlight = p.loadInFlight ∧
      p.requestScan.loadRequest = p.loadRequest := by
  obtain h | ⟨h, -⟩ := Port.requestScan_spec p <;> rw [h] <;> exact ⟨fun _ => rfl, rfl, rfl⟩

/-! #### Commands that are no sample event -/

theorem relay_reset_opened (x : Phase) : (getPhase Relays.reset.relay x).state = .opened := by
  cases x <;> rfl

theorem allPresent_of_reset (mode : BitVec 2) (closeTime openTime : Nat) :
    allPresent mode { relay := Relays.reset.relay, closeTime := closeTime, openTime := openTime } .opened = true := by
  rw [allPresent_iff]
  exact fun x _ => relay_reset_opened x

theorem driveOutput_of_opened {r : Relay} (h : r.state = .opened) : r.driveOutput = false := by
  unfold Relay.driveOutput; rw [h]

/-- A part just reset agrees, its port without a load and a transaction that counts. -/
theorem engineAgrees_reset {t : State} {mode : BitVec 2} (hcontrol : t.control = Control.reset mode)
    (hlanes : t.lanes = perLane Lane.reset) (hclaims : t.composer.claims = Claims.none) (hrelays : t.relays = Relays.reset)
    (hrequest : t.port.loadRequest = false) (hwanted : ∀ k, t.port.wantedBy k = false)
    (hflight : t.port.loadInFlight = false) : t.EngineAgrees := by
  have hlane : ∀ k, getLane t.lanes k = Lane.reset := fun k => by rw [hlanes, getLane_perLane]
  have hopened : ∀ x, (getPhase t.relays.relay x).state = .opened := fun x => by rw [hrelays]; exact relay_reset_opened x
  have hfits : ∀ k, (getLane t.lanes k).Fits t.control.engine (t.port.wantedBy k) := by
    intro k
    rw [hlane, hwanted]
    exact fits_reset _
  exact
    { states := fun k => (hfits k).held
      slots := fun k => (hfits k).slots
      requests := fun k => (hfits k).request
      wanted := fun k => (hfits k).wanted
      claims := by
        rw [hclaims]
        refine (claims_none_of t.lanes fun k => ?_).symm
        rw [hlane]
        nofun
      progress := by rw [hcontrol]; rfl
      opened := by rw [hcontrol]; nofun
      deferred := by rw [hcontrol]; nofun
      relays := fun x hdrive => by rw [driveOutput_of_opened (hopened x)] at hdrive; cases hdrive
      absent := fun x _ => hopened x
      load := by rw [hrequest, hflight]; rintro (hload | hload) <;> cases hload
      once := fun _ => hflight }

theorem engineAgrees_powerOn (mode : BitVec 2) (pending : List Instr) : (State.powerOn mode pending).EngineAgrees :=
  engineAgrees_reset (mode := mode) rfl rfl rfl rfl rfl (fun _ => rfl) rfl

theorem engineAgrees_softened (s : State) : s.softened.EngineAgrees := by
  have hmarks : (∀ k, s.softened.port.wantedBy k = false) ∧ s.softened.port.loadInFlight = false := by
    change (∀ k, s.port.softReset.wantedBy k = false) ∧ s.port.softReset.loadInFlight = false
    unfold Port.wantedBy Port.loadInFlight Port.softReset
    cases s.port.slot with
    | none => exact ⟨fun _ => rfl, rfl⟩
    | some tr =>
      dsimp only [Option.map]
      constructor
      · intro k; split <;> rfl
      · split <;> rfl
  exact engineAgrees_reset (mode := s.control.mode) rfl rfl rfl rfl rfl hmarks.1 hmarks.2

section
variable {s : State} (h : s.EngineAgrees)
include h

/-- In agreement, a change of the engine state alone needs the new state to hold the lanes and drive the relays. -/
theorem State.EngineAgrees.enter {t : State} {engine : EngineState} (hengine : t.control.engine = engine)
    (hmode : t.control.mode = s.control.mode) (hrelays : t.relays.relay = s.relays.relay)
    (hclaims : t.composer.claims = claimsOf t.lanes)
    (hlanes : ∀ k, (getLane t.lanes k).Fits engine (t.port.wantedBy k)) (hprogress : t.control.progress = .none)
    (hdeferred : t.control.deferredClear = true → engine = .tripped)
    (hdrive : ∀ x, (getPhase s.relays.relay x).driveOutput = true → engine.live = true)
    (hload : t.port.loadRequest = true ∨ t.port.loadInFlight = true → engine = .loading)
    (honce : t.port.loadRequest = true → t.port.loadInFlight = false) : t.EngineAgrees where
  states k := by rw [hengine]; exact (hlanes k).held
  slots k := (hlanes k).slots
  requests k := (hlanes k).request
  wanted k := (hlanes k).wanted
  claims := hclaims
  progress := by unfold Control.progressFits; rw [hprogress]
  opened := by rw [hprogress]; nofun
  deferred := by rw [hengine]; exact hdeferred
  relays := by rw [hengine, hrelays]; exact hdrive
  absent := by rw [hmode, hrelays]; exact h.absent
  load := by rw [hengine]; exact hload
  once := honce

theorem State.EngineAgrees.heldLow : s.heldLow.EngineAgrees where
  states := h.states
  slots := h.slots
  requests := h.requests
  wanted := fun _ hwanted => nomatch hwanted
  claims := h.claims
  progress := h.progress
  opened := fun _ => allPresent_of_reset _ _ _
  deferred := h.deferred
  relays := fun x hdrive => by
    change (getPhase Relays.reset.relay x).driveOutput = true at hdrive
    rw [driveOutput_of_opened (relay_reset_opened x)] at hdrive
    cases hdrive
  absent := fun x _ => relay_reset_opened x
  load := fun hload => h.load (hload.imp_right fun hflight => nomatch hflight)
  once := fun _ => rfl

theorem State.EngineAgrees.started (hengine : s.control.engine = .standby) : s.started.EngineAgrees := by
  have hclear := h.not_deferred (by rw [hengine]; nofun)
  have hlane : ∀ k, getLane s.started.lanes k = Lane.reset := fun k => getLane_perLane _ k
  have hflight : s.started.port.loadInFlight = false :=
    (loadInFlight_discard _ _).trans (h.no_load (by rw [hengine]; nofun)).2
  refine h.enter (engine := .loading) rfl rfl rfl ?_ ?_ ?_ ?_ ?_ (fun _ => rfl) (fun _ => hflight)
  · refine (claims_none_of s.started.lanes fun k => ?_).symm
    rw [hlane]
    nofun
  · intro k
    have hunwanted : s.started.port.wantedBy k = false := by
      refine (wantedBy_discard _ _ k).trans ?_
      rw [Bool.not_true, Bool.and_false]
    rw [hlane, hunwanted]
    exact fits_reset _
  · exact h.no_progress (by rw [hengine]; nofun) (by rw [hengine]; nofun) (by rw [hengine]; nofun) hclear
  · intro hdeferred
    exact absurd (hclear.symm.trans hdeferred) Bool.false_ne_true
  · intro x hdrive
    rw [h.no_drive (by rw [hengine]; rfl) x] at hdrive
    cases hdrive

/-- A lane held in a state that runs no lane is held in every state. -/
theorem State.EngineAgrees.fits_of_closed (hengine : s.control.engine.cueOpen = false) (engine : EngineState) (k : LaneId) :
    (getLane s.lanes k).Fits engine (s.port.wantedBy k) := by
  have hk := h.fits k
  refine ⟨?_, hk.slots, hk.request, hk.wanted⟩
  have hheld := hk.held
  unfold LaneState.heldIn at hheld ⊢
  cases hstate : (getLane s.lanes k).state with
  | idle | halted => rfl
  | fetching | waiting => rw [hstate] at hheld; exact absurd (hengine.symm.trans hheld) Bool.false_ne_true
  | active | gap =>
    rw [hstate] at hheld
    rw [eq_of_beq hheld] at hengine
    cases hengine

theorem State.EngineAgrees.cleared (hengine : (s.control.engine = .tripped ∧ s.control.deferredClear = false) ∨
    s.control.engine = .faulted) : s.cleared.EngineAgrees := by
  have hclear : s.control.deferredClear = false := by
    obtain ⟨-, hclear⟩ | hengine := hengine
    · exact hclear
    · exact h.not_deferred (by rw [hengine]; nofun)
  have hstates : s.control.engine = .tripped ∨ s.control.engine = .faulted := hengine.imp_left And.left
  refine h.enter (engine := .standby) rfl rfl rfl h.claims (fun k => ?_) ?_ ?_ (fun x hdrive => ?_) ?_ h.once
  · exact h.fits_of_closed (by obtain hs | hs := hstates <;> rw [hs] <;> rfl) _ k
  · refine h.no_progress ?_ ?_ ?_ hclear <;> (obtain hs | hs := hstates <;> rw [hs] <;> nofun)
  · intro hdeferred
    exact absurd (hclear.symm.trans hdeferred) Bool.false_ne_true
  · rw [h.no_drive (by obtain hs | hs := hstates <;> rw [hs] <;> rfl) x] at hdrive
    cases hdrive
  · intro hload
    have hloading := h.load hload
    obtain hs | hs := hstates <;> rw [hs] at hloading <;> cases hloading

theorem State.EngineAgrees.deferClear (hengine : s.control.engine = .tripped) :
    ({ s with control := { s.control with deferredClear := true } } : State).EngineAgrees where
  states := h.states
  slots := h.slots
  requests := h.requests
  wanted := h.wanted
  claims := h.claims
  progress := by
    have hprogress := h.progress
    unfold Control.progressFits at hprogress ⊢
    cases hp : s.control.progress <;> rw [hp] at hprogress <;> simp_all
  opened := h.opened
  deferred := fun _ => hengine
  relays := h.relays
  absent := h.absent
  load := h.load
  once := h.once

theorem State.EngineAgrees.stopped (k : LaneId) : (s.stopped k).EngineAgrees := by
  refine h.change rfl rfl ?_ (fun j => ?_) ?_ ?_
  · refine h.claims.trans (claimsOf_congr fun j => ?_).symm
    by_cases hj : j = k
    · subst hj; exact .inl (by rw [State.stopped, getLane_setLane_same]; exact ⟨rfl, rfl⟩)
    · rw [State.stopped, getLane_setLane_of_ne _ hj]; exact .inl ⟨rfl, rfl⟩
  · change (getLane (Sys2Proof.Machine.setLane s.lanes k _) j).Fits _ ((s.port.discardFetches _).wantedBy j)
    rw [wantedBy_discard]
    by_cases hj : j = k
    · subst hj
      rw [getLane_setLane_same, decide_eq_true rfl, Bool.not_true, Bool.and_false]
      exact (h.fits j).withdrawn true
    · rw [getLane_setLane_of_ne _ hj, decide_eq_false hj, Bool.not_false, Bool.and_true]
      exact h.fits j
  · change s.port.loadRequest = true ∨ (s.port.discardFetches _).loadInFlight = true → _
    rw [loadInFlight_discard]
    exact h.load
  · change s.port.loadRequest = true → (s.port.discardFetches _).loadInFlight = false
    rw [loadInFlight_discard]
    exact h.once

theorem State.EngineAgrees.resumed {k : LaneId} (hstate : (getLane s.lanes k).state = .halted) :
    (s.resumed k).EngineAgrees := by
  have hk := h.fits k
  obtain ⟨hrequest, hwanted⟩ := hk.none_of (by unfold Lane.mayFetch; rw [hstate])
  have hslots := hk.slots
  rw [slotsFit_of_not_occupied (by rw [hstate]; rfl)] at hslots
  have hidle : ({ getLane s.lanes k with state := .idle, late := false } : Lane).Fits s.control.engine
      (s.port.wantedBy k) := by
    rw [hwanted]
    exact ⟨rfl, hslots, by simp [hrequest], nofun⟩
  obtain ⟨hfits, hclaims⟩ := fits_cueTest hidle (e := s.laneEnv k) rfl
  have hidles : (getLane s.lanes k).KeepsClaims { getLane s.lanes k with state := .idle, late := false } :=
    .inr ⟨by rw [hstate]; nofun, nofun⟩
  exact h.runLane (f := fun e l => cueTest e { l with state := .idle, late := false }) hfits (hidles.trans hclaims)

/-! #### The bus -/

/-- A free slot agrees: nothing is wanted from it. -/
theorem State.EngineAgrees.freeSlot : s.freeSlot.EngineAgrees :=
  h.change rfl rfl h.claims (fun k => (h.fits k).unwanted)
    (fun hload => h.load (hload.imp_right fun hflight => nomatch hflight)) fun _ => rfl

/-- A transaction that is neither a load's nor a lane's is issued. -/
theorem State.EngineAgrees.issue {t : State} (hcontrol : t.control = s.control) (hrelays : t.relays.relay = s.relays.relay)
    (hclaims : t.composer.claims = s.composer.claims) (hlanes : t.lanes = s.lanes)
    (hrequest : t.port.loadRequest = s.port.loadRequest) (hwanted : ∀ k, t.port.wantedBy k = false)
    (hflight : t.port.loadInFlight = false) : t.EngineAgrees :=
  h.change hcontrol hrelays (by rw [hclaims, hlanes]; exact h.claims)
    (fun k => by rw [hlanes, hwanted]; exact (h.fits k).unwanted)
    (by rw [hrequest, hflight]; exact fun hload => h.load (hload.imp_right fun hfalse => nomatch hfalse))
    fun _ => hflight

theorem State.EngineAgrees.grantFetch {k : LaneId} {f : Fetch} (hidle : s.port.slot = none)
    (hrequest : (getLane s.lanes k).request = some f) : (s.grantFetch k f).EngineAgrees := by
  have hk := h.fits k
  have hfetch : (getLane s.lanes k).mayFetch = true := hk.request (by rw [hrequest]; rfl)
  have hunwanted := wantedBy_of_idle hidle
  have hgranted : ∀ address length, ({ s with
      lanes := Sys2Proof.Machine.setLane s.lanes k { getLane s.lanes k with request := none }
      port := s.port.issueRead (.laneFetch k f true) s.port.planBase address length } : State).EngineAgrees := by
    intro address length
    refine h.change rfl rfl ?_ (fun j => ?_)
      (fun hload => h.load (hload.imp_right fun hflight => nomatch hflight)) (fun _ => rfl)
    · refine h.claims.trans (claimsOf_congr fun j => ?_).symm
      by_cases hj : j = k
      · subst hj; rw [getLane_setLane_same]; exact .inl ⟨rfl, rfl⟩
      · rw [getLane_setLane_of_ne _ hj]; exact .inl ⟨rfl, rfl⟩
    · by_cases hj : j = k
      · subst hj
        rw [getLane_setLane_same]
        exact ⟨hk.held, hk.slots, nofun, fun _ => ⟨hfetch, rfl⟩⟩
      · have hother : (s.port.issueRead (.laneFetch k f true) s.port.planBase address length).wantedBy j = false := by
          simp [Port.wantedBy, Port.issueRead, Ne.symm hj]
        rw [getLane_setLane_of_ne _ hj]
        exact hother ▸ (h.fits j).unwanted
  unfold State.grantFetch
  cases f with
  | cue =>
    dsimp only
    split
    · obtain ⟨hfits, hclaims⟩ := fits_withdrawCue hk hfetch
      exact h.setLane (by rw [hunwanted]; exact hfits) hclaims
    · split
      · exact hgranted _ _
      · have hnone : ({ getLane s.lanes k with request := none } : Lane).Fits s.control.engine false :=
          ⟨hk.held, hk.slots, nofun, nofun⟩
        obtain ⟨hfits, hclaims⟩ := fits_refuse hnone (s.laneEnv k) .cueCount
          (halfIndex (cueSlot (getLane s.port.taken k))) noEpisode (not_halted_of_mayFetch hfetch)
        exact h.runLane (by rw [hunwanted]; exact hfits) hclaims
  | episode | shapeCount | shapeComponents => exact hgranted _ _

theorem State.EngineAgrees.granted {t : State} (hidle : s.port.slot = none) (hgrant : Granted s t) :
    t.EngineAgrees := by
  cases hgrant with
  | idle => exact h
  | load hload =>
    exact h.change rfl rfl h.claims (fun k => (h.fits k).unwanted) (fun _ => h.load (.inl hload)) nofun
  | journal head rest =>
    unfold State.grantJournal
    split
    · exact h.same rfl rfl rfl rfl rfl (fun _ => rfl) rfl
    · exact h.issue rfl rfl rfl rfl rfl (fun _ => rfl) rfl
  | fetch k f hrequest => exact h.grantFetch hidle hrequest
  | taken | written | scan => exact h.issue rfl rfl rfl rfl rfl (fun _ => rfl) rfl

/-- A load's reads go on in LOADING. -/
theorem State.EngineAgrees.loadGoesOn (hengine : s.control.engine = .loading) (hrequest : s.port.loadRequest = false)
    {t : State} (hcontrol : t.control = s.control) (hrelays : t.relays.relay = s.relays.relay)
    (hclaims : t.composer.claims = s.composer.claims) (hlanes : t.lanes = s.lanes)
    (hport : t.port.loadRequest = s.port.loadRequest) (hwanted : ∀ k, t.port.wantedBy k = false) : t.EngineAgrees :=
  h.change hcontrol hrelays (by rw [hclaims, hlanes]; exact h.claims)
    (fun k => by rw [hlanes, hwanted]; exact (h.fits k).unwanted) (fun _ => hengine)
    (by rw [hport, hrequest]; nofun)

/-- LOADING is left for a state that no lane runs in when the load has ended (R151). -/
theorem State.EngineAgrees.leaveLoading (hengine : s.control.engine = .loading) (hrequest : s.port.loadRequest = false)
    (hidle : s.port.slot = none) {t : State} (hmode : t.control.mode = s.control.mode)
    (hprogress : t.control.progress = s.control.progress) (hclear : t.control.deferredClear = s.control.deferredClear)
    (hrelays : t.relays.relay = s.relays.relay) (hclaims : t.composer.claims = s.composer.claims)
    (hlanes : t.lanes = s.lanes) (hport : t.port.loadRequest = s.port.loadRequest)
    (hwanted : ∀ k, t.port.wantedBy k = s.port.wantedBy k) (hflight : t.port.loadInFlight = s.port.loadInFlight) :
    t.EngineAgrees := by
  have hnotclear := h.not_deferred (by rw [hengine]; nofun)
  refine h.enter rfl hmode hrelays (by rw [hclaims, hlanes]; exact h.claims) (fun k => ?_) ?_ ?_ ?_ ?_ ?_
  · rw [hlanes, hwanted]
    exact h.fits_of_closed (by rw [hengine]; rfl) _ k
  · rw [hprogress]
    exact h.no_progress (by rw [hengine]; nofun) (by rw [hengine]; nofun) (by rw [hengine]; nofun) hnotclear
  · rw [hclear, hnotclear]; nofun
  · intro x hdrive
    rw [h.no_drive (by rw [hengine]; rfl) x] at hdrive
    cases hdrive
  · rw [hport, hflight, hrequest, loadInFlight_of_idle hidle]
    rintro (hload | hload) <;> cases hload
  · rw [hport, hrequest]; nofun

/-- The load's ending transaction, of a part in agreement: the part is in LOADING and no load waits (R4). -/
theorem State.EngineAgrees.loading_of_flight (hflight : s.port.loadInFlight = true) :
    s.freeSlot.control.engine = .loading ∧ s.freeSlot.port.loadRequest = false :=
  ⟨h.load (.inr hflight), Bool.eq_false_iff.2 fun hrequest => Bool.false_ne_true ((h.once hrequest).symm.trans hflight)⟩

/-- A lane that still wants the read that ends may hold it. -/
theorem State.EngineAgrees.mayFetch_of_wanted {tr : Transaction} (hslot : s.port.slot = some tr)
    (horphan : tr.orphan = false) {k : LaneId} {f : Fetch} (hkind : tr.kind = .laneFetch k f true) :
    (getLane s.lanes k).mayFetch = true := (h.wanted k (wantedBy_of_slot hslot horphan hkind)).1

/-- The lane work of a completed read, on the freed slot. -/
theorem State.EngineAgrees.laneLoad {P : Episode → Prop} {k : LaneId} {g : LaneEnv → Lane → LaneOut}
    (hidle : s.port.slot = none) (hg : LaneLoad P g) (hfetch : (getLane s.lanes k).mayFetch = true) :
    (s.runLane k g).EngineAgrees := by
  obtain ⟨hfits, hclaims⟩ := fits_laneLoad (h.fits k) (e := s.laneEnv k) rfl hg hfetch
  exact h.runLane (by rw [wantedBy_of_idle hidle]; exact hfits) hclaims

theorem State.EngineAgrees.completed {t : State} {tr : Transaction} {c : Instr} (hslot : s.port.slot = some tr)
    (horphan : tr.orphan = false) (hdone : Completed s.freeSlot tr c t) : t.EngineAgrees := by
  have hfreed := h.freeSlot
  have hidle : s.freeSlot.port.slot = none := rfl
  have hfetch : ∀ {k : LaneId} {f : Fetch}, tr.kind = .laneFetch k f true →
      (getLane s.freeSlot.lanes k).mayFetch = true := h.mayFetch_of_wanted hslot horphan
  cases hdone with
  | loadHeader hk header =>
    obtain ⟨hengine, hrequest⟩ := h.loading_of_flight (by unfold Port.loadInFlight; rw [hslot]; simp [hk, horphan])
    exact hfreed.loadGoesOn hengine hrequest rfl rfl rfl rfl rfl fun _ => rfl
  | loadReadCount header hk word =>
    obtain ⟨hengine, hrequest⟩ := h.loading_of_flight (by unfold Port.loadInFlight; rw [hslot]; simp [hk, horphan])
    exact hfreed.loadGoesOn hengine hrequest rfl rfl rfl rfl rfl fun _ => rfl
  | load header word hk =>
    obtain ⟨hengine, hrequest⟩ := h.loading_of_flight (by unfold Port.loadInFlight; rw [hslot]; simp [hk, horphan])
    obtain ⟨hwanted, hflight, hload⟩ := requestScan_marks (s.freeSlot.port.latch header.toList word)
    exact hfreed.leaveLoading hengine hrequest hidle rfl rfl rfl rfl rfl rfl hload hwanted hflight
  | scan _ words => exact State.EngineAgrees.cueTests (hfreed.same rfl rfl rfl rfl rfl (fun _ => rfl) rfl)
  | taken | count => exact hfreed.same rfl rfl rfl rfl rfl (fun _ => rfl) rfl
  | record => exact hfreed.issue rfl rfl rfl rfl rfl (fun _ => rfl) rfl
  | cue k wanted hk word =>
    have hconsumed : ({ s.freeSlot with port := s.freeSlot.port.consumed k } : State).EngineAgrees :=
      hfreed.same rfl rfl rfl rfl rfl (fun _ => rfl) rfl
    cases wanted with
    | false => exact hconsumed.runCueTest k
    | true =>
      obtain ⟨g, hload, hg⟩ := cueDone_wanted s.freeSlot k word fun _ => True
      rw [hg]
      exact hconsumed.laneLoad hidle hload (hfetch hk)
  | episode k n wanted hk words =>
    cases wanted with
    | false => exact hfreed
    | true =>
      obtain ⟨g, hload, hg⟩ := episodeDone_wanted (P := fun _ => True) s.freeSlot k n words.toList fun _ _ => trivial
      rw [hg]
      exact hfreed.laneLoad hidle hload (hfetch hk)
  | shapeCount k ep wanted hk word =>
    cases wanted with
    | false => exact hfreed
    | true =>
      obtain ⟨g, hload, hg⟩ := shapeCountDone_wanted (P := fun _ => True) s.freeSlot k ep word trivial
      rw [hg]
      exact hfreed.laneLoad hidle hload (hfetch hk)
  | shapeComponents k ep count wanted hk words =>
    cases wanted with
    | false => exact hfreed
    | true =>
      obtain ⟨g, hload, hg⟩ :=
        shapeComponentsDone_wanted (P := fun _ => True) s.freeSlot k ep count words.toList fun _ _ => trivial
      rw [hg]
      exact hfreed.laneLoad hidle hload (hfetch hk)

/-- A failure of the transaction in flight keeps the agreement (R15). -/
theorem State.EngineAgrees.fail : s.fail.state.EngineAgrees := by
  obtain ⟨hidle, hflight⟩ := State.fail_spec s
  cases hslot : s.port.slot with
  | none => rw [hidle hslot]; exact h
  | some tr =>
    cases horphan : tr.orphan with
    | true => rw [(hflight tr hslot).1 horphan]; exact h.freeSlot
    | false =>
      rw [(hflight tr hslot).2 horphan]
      have hfreed : (s.freeSlot.setFlag .bus).EngineAgrees :=
        h.freeSlot.same rfl rfl rfl rfl rfl (fun _ => rfl) rfl
      have hfailed : s.port.loadInFlight = true → (s.freeSlot.setFlag .bus).loadFailed.state.EngineAgrees := by
        intro hload
        obtain ⟨hengine, hrequest⟩ := h.loading_of_flight hload
        exact hfreed.leaveLoading hengine hrequest rfl rfl rfl rfl rfl rfl rfl rfl (fun _ => rfl) rfl
      unfold State.failed
      split
      case h_1 hk | h_2 hk | h_3 hk => exact hfailed (by unfold Port.loadInFlight; rw [hslot]; simp [hk, horphan])
      case h_6 k f wanted hk =>
        unfold State.fetchFailed
        split
        · rename_i hwanted
          subst hwanted
          have hfetch := h.mayFetch_of_wanted hslot horphan hk
          obtain ⟨hfits, hclaims⟩ := fits_refuse (hfreed.fits k) ((s.freeSlot.setFlag .bus).laneEnv k) .bus _ _
            (not_halted_of_mayFetch hfetch)
          exact (hfreed.setLane hfits hclaims).same rfl rfl rfl rfl rfl (fun _ => rfl) rfl
        · exact hfreed
      all_goals exact hfreed.same rfl rfl rfl rfl rfl (fun _ => rfl) rfl

theorem State.EngineAgrees.failNow : s.failNow.EngineAgrees := h.fail.same rfl rfl rfl rfl rfl (fun _ => rfl) rfl

end

end Sys2Proof.Machine
end

section
/-! ### The agreement with the engine state at a sample event (R45, R81, R149, R152 to R159) -/

namespace Sys2Proof.Machine

/-! #### The relays -/

/-- A present relay's output is driven after a sample event where it was driven before, no protection coming, or where
the command is to close (R128 to R130). -/
theorem driveOutput_of_command {r : Relay} {close protection : Bool} {closeTime openTime : Nat}
    (h : (r.advance.command close protection closeTime openTime).driveOutput = true) :
    close = true ∨ (protection = false ∧ r.driveOutput = true) := by
  cases close with
  | true => exact .inl rfl
  | false =>
    refine .inr ?_
    obtain ⟨state, remaining, span⟩ := r
    cases state with
    | opened | closed => simp [Relay.advance, Relay.command, Relay.driveOutput, Relay.beginOpening] at h
    | closing =>
      cases protection with
      | false => exact ⟨rfl, rfl⟩
      | true =>
        by_cases hremaining : remaining ≤ 1 <;>
          simp [Relay.advance, Relay.command, Relay.driveOutput, Relay.beginOpening, hremaining] at h
    | opening =>
      by_cases hremaining : remaining ≤ 1 <;>
        simp [Relay.advance, Relay.command, Relay.driveOutput, hremaining] at h

/-- A relay is commanded to close in a live state alone (R81). -/
theorem live_of_commandFor {c : Composer} {mode : BitVec 2} {engine : EngineState} {ls : PerLane Lane} {x : Phase}
    (h : c.commandFor mode engine ls x = true) : engine.live = true := by
  unfold Composer.commandFor at h
  have hstate := (Bool.and_eq_true_iff.1 h).2
  cases engine <;> first | rfl | cases hstate

/-! #### The stages that settle the engine state -/

section
variable {w : Work} (h : w.state.EngineAgrees)
include h

theorem Work.agrees_waitTimer : w.tick.waitTimer.state.EngineAgrees := by
  have hmarks : (∀ k, w.tick.waitTimer.state.port.wantedBy k = w.state.port.wantedBy k) ∧
      w.tick.waitTimer.state.port.loadInFlight = w.state.port.loadInFlight := by
    unfold Port.wantedBy Port.loadInFlight Work.waitTimer Work.tick
    dsimp only
    cases w.state.port.slot <;> exact ⟨fun _ => rfl, rfl⟩
  exact h.same rfl rfl rfl rfl rfl hmarks.1 hmarks.2

theorem Work.agrees_expire (now : Bool) : (w.expire now).state.EngineAgrees := by
  unfold Work.expire
  split
  · exact h.fail
  · exact h

theorem Work.agrees_dropHead (now : Bool) : (w.dropHead now).state.EngineAgrees := by
  unfold Work.dropHead
  split
  · exact h.same rfl rfl rfl rfl rfl (fun _ => rfl) rfl
  · exact h

/-- With every present relay OPEN no output is driven. -/
theorem no_drive_of_opened (hopened : allPresent w.state.control.mode w.state.relays .opened = true) (x : Phase) :
    (getPhase w.state.relays.relay x).driveOutput = false := by
  refine driveOutput_of_opened ?_
  cases hpresent : present w.state.control.mode x with
  | true => exact (allPresent_iff _ _ _).1 hopened x hpresent
  | false => exact h.absent x hpresent

/-- The progress due is entered in agreement: a lane held in the state left is held in the one entered (R149). -/
theorem Work.agrees_enterProgress : w.enterProgress.state.EngineAgrees := by
  have hfits := h.progress
  unfold Control.progressFits at hfits
  have hnoload : ∀ engine, w.state.control.engine = engine → engine ≠ .loading →
      (w.state.port.loadRequest = true ∨ w.state.port.loadInFlight = true → engine = .loading) := by
    intro engine hengine hne hload
    rw [h.load hload] at hengine
    exact absurd hengine.symm hne
  cases hprogress : w.state.control.progress with
  | none => simpa only [Work.enterProgress, hprogress] using h
  | softstart =>
    rw [hprogress] at hfits
    have hengine : w.state.control.engine = .closing := eq_of_beq hfits
    have hclear := h.not_deferred (by rw [hengine]; nofun)
    simp only [Work.enterProgress, hprogress]
    refine h.enter rfl rfl rfl h.claims (fun k => (h.fits k).advance ?_ rfl) rfl ?_ (fun _ _ => rfl) ?_ h.once
    · rw [hengine]; nofun
    · exact fun hdeferred => absurd (hclear.symm.trans hdeferred) Bool.false_ne_true
    · exact fun hload => absurd (hnoload .closing hengine nofun hload) nofun
  | running =>
    rw [hprogress] at hfits
    have hengine : w.state.control.engine = .softstart := eq_of_beq hfits
    have hclear := h.not_deferred (by rw [hengine]; nofun)
    simp only [Work.enterProgress, hprogress]
    refine h.enter rfl rfl rfl h.claims (fun k => (h.fits k).advance ?_ rfl) rfl ?_ (fun _ _ => rfl) ?_ h.once
    · rw [hengine]; nofun
    · exact fun hdeferred => absurd (hclear.symm.trans hdeferred) Bool.false_ne_true
    · exact fun hload => absurd (hnoload .softstart hengine nofun hload) nofun
  | standby =>
    rw [hprogress, Bool.or_eq_true, Bool.and_eq_true, beq_iff_eq, beq_iff_eq] at hfits
    have hleft : w.state.control.engine = .releasing ∨ w.state.control.engine = .tripped := hfits.imp_right And.left
    have hdrive := no_drive_of_opened h (h.opened hprogress)
    simp only [Work.enterProgress, hprogress]
    refine h.enter rfl rfl rfl h.claims (fun k => ?_) rfl ?_ (fun x hx => ?_) ?_ h.once
    · exact h.fits_of_closed (by obtain hs | hs := hleft <;> rw [hs] <;> rfl) _ k
    · intro hdeferred
      obtain hs | hs := hleft
      · have hclear := h.not_deferred (by rw [hs]; nofun)
        simp [hs, hclear] at hdeferred
      · simp [hs] at hdeferred
    · rw [hdrive x] at hx
      cases hx
    · intro hload
      obtain hs | hs := hleft
      · exact absurd (hnoload .releasing hs nofun hload) nofun
      · exact absurd (hnoload .tripped hs nofun hload) nofun

end

/-- The part between the opening of a sample event and the lanes' work: a lane still stands as the engine state before a
RELEASE or a protection held it. -/
structure Work.Settled (w : Work) : Prop where
  lanes : ∃ engine, (w.protection = false → w.released = false → w.state.control.engine = engine) ∧
    ∀ k, (getLane w.state.lanes k).Fits engine (w.state.port.wantedBy k)
  deferred : w.state.control.deferredClear = true → w.state.control.engine = .tripped
  relays : ∀ x, (getPhase w.state.relays.relay x).driveOutput = true →
    w.protection = true ∨ w.state.control.engine.live = true
  absent : ∀ x, present w.state.control.mode x = false → (getPhase w.state.relays.relay x).state = .opened
  load : w.state.port.loadRequest = true ∨ w.state.port.loadInFlight = true → w.state.control.engine = .loading
  once : w.state.port.loadRequest = true → w.state.port.loadInFlight = false

/-- A RELEASE acted on leaves the lanes to their work (R154). -/
theorem Work.settled_actOnRelease {w : Work} (h : w.state.EngineAgrees) : w.actOnRelease.Settled := by
  have hfits : ∀ v : Work, v.state.control.engine = w.state.control.engine →
      v.state.control.deferredClear = w.state.control.deferredClear → v.state.control.mode = w.state.control.mode →
      v.state.lanes = w.state.lanes → v.state.relays = w.state.relays → v.state.port = w.state.port → v.Settled := by
    intro v hengine hclear hmode hlanes hrelays hport
    refine ⟨⟨w.state.control.engine, fun _ _ => hengine, fun k => ?_⟩, ?_, ?_, ?_, ?_, ?_⟩
    · rw [hlanes, hport]; exact h.fits k
    · rw [hclear, hengine]; exact h.deferred
    · rw [hrelays, hengine]; exact fun x hx => .inr (h.relays x hx)
    · rw [hmode, hrelays]; exact h.absent
    · rw [hport, hengine]; exact h.load
    · rw [hport]; exact h.once
  unfold Work.actOnRelease
  dsimp only
  split
  · split
    · rename_i hreleasable
      have hne : w.state.control.engine ≠ .loading ∧ w.state.control.engine ≠ .tripped := by
        constructor <;> (intro hengine; rw [hengine] at hreleasable; cases hreleasable)
      refine ⟨⟨w.state.control.engine, nofun, fun k => h.fits k⟩, ?_, fun _ _ => .inr rfl, h.absent, ?_, h.once⟩
      · exact fun hdeferred => absurd (h.deferred hdeferred) hne.2
      · exact fun hload => absurd (h.load hload) hne.1
    · exact hfits _ rfl rfl rfl rfl rfl rfl
  · exact hfits _ rfl rfl rfl rfl rfl rfl

/-- A protection acts in a live state alone (R141, R136, R157). -/
theorem live_of_protectionTaken {i : SampleInputs} {w : Work} {p : Protection} (h : w.protectionTaken i = some p) :
    w.opened.live = true := by
  have hpresent := List.find?_some h
  cases p with
  | trip =>
    obtain ⟨report, hreport⟩ := Option.isSome_iff_exists.1 hpresent
    unfold Measure.tripReport at hreport
    obtain ⟨x, hx, -⟩ := Option.map_eq_some_iff.1 hreport
    have hreported := List.find?_some hx
    simp only [Bool.and_eq_true] at hreported
    exact hreported.1.1
  | fault => exact (Bool.and_eq_true_iff.1 hpresent).1
  | measLost => exact (Bool.and_eq_true_iff.1 hpresent).1

section
variable {w : Work} (h : w.Settled)
include h

/-- A stage that leaves the fields of the settled part keeps it settled. -/
theorem Work.Settled.same {v : Work} (hprotection : v.protection = w.protection) (hreleased : v.released = w.released)
    (hengine : v.state.control.engine = w.state.control.engine)
    (hclear : v.state.control.deferredClear = w.state.control.deferredClear)
    (hmode : v.state.control.mode = w.state.control.mode) (hlanes : v.state.lanes = w.state.lanes)
    (hrelays : v.state.relays = w.state.relays) (hwanted : ∀ k, v.state.port.wantedBy k = w.state.port.wantedBy k)
    (hflight : v.state.port.loadInFlight = w.state.port.loadInFlight)
    (hrequest : v.state.port.loadRequest = w.state.port.loadRequest) : v.Settled := by
  obtain ⟨engine, hsame, hfits⟩ := h.lanes
  refine ⟨⟨engine, ?_, fun k => ?_⟩, ?_, ?_, ?_, ?_, ?_⟩
  · rw [hprotection, hreleased, hengine]; exact hsame
  · rw [hlanes, hwanted]; exact hfits k
  · rw [hclear, hengine]; exact h.deferred
  · rw [hrelays, hprotection, hengine]; exact h.relays
  · rw [hmode, hrelays]; exact h.absent
  · rw [hrequest, hflight, hengine]; exact h.load
  · rw [hrequest, hflight]; exact h.once

theorem Work.Settled.cycleScan : w.cycleScan.Settled := by
  unfold Work.cycleScan
  split
  · obtain ⟨hwanted, hflight, hrequest⟩ := requestScan_marks w.state.port
    exact h.same rfl rfl rfl rfl rfl rfl rfl hwanted hflight hrequest
  · exact h

/-- The protection acted on leaves the lanes and the relays to their work (R156, R157). -/
theorem Work.Settled.protect (i : SampleInputs) (hopened : w.opened = w.state.control.engine) :
    (w.protect i).Settled := by
  have hacted : ∀ {p : Protection} {flag record what} {newState : EngineState},
      w.protectionTaken i = some p → (w.act newState flag record what).Settled := by
    intro p flag record what newState htaken
    have hlive : w.state.control.engine.live = true := hopened ▸ live_of_protectionTaken htaken
    obtain ⟨engine, -, hfits⟩ := h.lanes
    refine ⟨⟨engine, nofun, hfits⟩, fun hdeferred => ?_, fun _ _ => .inl rfl, h.absent, fun hload => ?_, h.once⟩
    · have htripped := h.deferred hdeferred
      rw [htripped] at hlive
      cases hlive
    · have hloading := h.load hload
      rw [hloading] at hlive
      cases hlive
  unfold Work.protect
  dsimp only
  split
  · exact h
  all_goals exact hacted ‹_›

end

/-- A sample event is settled before the blocks perform. -/
theorem Work.settled_settle {w : Work} (h : w.state.EngineAgrees) (i : SampleInputs) : (w.settle i).Settled := by
  have hdropped := Work.agrees_dropHead (Work.agrees_expire (Work.agrees_waitTimer h) i.expiryFirst) true
  have hopening := Work.settled_actOnRelease (Work.agrees_enterProgress hdropped)
  have hmeasured : (((w.tick.waitTimer.expire i.expiryFirst).dropHead true).opening.sampleLines i).measure.Settled :=
    hopening.same rfl rfl rfl rfl rfl rfl rfl (fun _ => rfl) rfl rfl
  refine Work.Settled.protect hmeasured.cycleScan i ?_
  rw [Work.cycleScan_out_opened, Work.cycleScan_control]
  rfl

/-! #### The stages of the blocks -/

/-- The progress due after a sample event, by the engine state that calls for it (R149, R152 to R155, R159). -/
theorem progressDue_cases (w : Work) :
    w.progressDue = .none ∨ (w.progressDue = .softstart ∧ w.state.control.engine = .closing) ∨
      (w.progressDue = .running ∧ w.state.control.engine = .softstart) ∨
      (w.progressDue = .standby ∧ allPresent w.state.control.mode w.state.relays .opened = true ∧
        (w.state.control.engine = .releasing ∨
          (w.state.control.engine = .tripped ∧ w.state.control.deferredClear = true))) := by
  unfold Work.progressDue
  dsimp only
  split
  · split
    · exact .inr (.inl ⟨rfl, ‹_›⟩)
    · exact .inl rfl
  · split
    · exact .inr (.inr (.inl ⟨rfl, ‹_›⟩))
    · exact .inl rfl
  · split
    · rename_i hengine hdue
      exact .inr (.inr (.inr ⟨rfl, (Bool.and_eq_true_iff.1 hdue).2, .inl hengine⟩))
    · exact .inl rfl
  · split
    · rename_i hengine hdue
      obtain ⟨hclear, hopened⟩ := Bool.and_eq_true_iff.1 hdue
      exact .inr (.inr (.inr ⟨rfl, hopened, .inr ⟨hengine, hclear⟩⟩))
    · exact .inl rfl
  · exact .inl rfl

/-- That progress is one that the engine state can call for, a standby with every present relay OPEN. -/
theorem progressDue_fits (w : Work) :
    ({ w.state.control with progress := w.progressDue } : Control).progressFits = true ∧
      (w.progressDue = .standby → allPresent w.state.control.mode w.state.relays .opened = true) := by
  unfold Control.progressFits
  obtain hdue | ⟨hdue, hengine⟩ | ⟨hdue, hengine⟩ | ⟨hdue, hopened, hengine | ⟨hengine, hclear⟩⟩ :=
    progressDue_cases w
  · rw [hdue]; exact ⟨rfl, nofun⟩
  · rw [hdue, hengine]; exact ⟨rfl, nofun⟩
  · rw [hdue, hengine]; exact ⟨rfl, nofun⟩
  · rw [hdue, hengine]; exact ⟨rfl, fun _ => hopened⟩
  · rw [hdue, hengine, hclear]; exact ⟨rfl, fun _ => hopened⟩

section
variable {w : Work} (h : w.Settled) (i : SampleInputs)
include h

theorem Work.Settled.laned (k : LaneId) : (getLane (lanedWork i w).state.lanes k).Fits w.state.control.engine
    ((lanedWork i w).state.port.wantedBy k) := by
  obtain ⟨engine, hsame, hfits⟩ := h.lanes
  have henv : ∀ j, getLane (tabLane (((w.watches i).advanceRelays).sampleEnv i)) j =
      ((w.watches i).advanceRelays).sampleEnv i j := fun j => getLane_tabLane _ j
  have hlane : (getLane (lanedWork i w).state.lanes k) =
      (getLane (lanesWork (tabLane (((w.watches i).advanceRelays).sampleEnv i)) w.state.lanes) k).lane :=
    getLane_tabLane _ k
  have hwanted : (lanedWork i w).state.port.wantedBy k = (w.state.port.wantedBy k &&
      !(getLane (lanesWork (tabLane (((w.watches i).advanceRelays).sampleEnv i)) w.state.lanes) k).discards) :=
    wantedBy_discard _ _ k
  have hworked := lanesWork_fits (engine := engine) (wanted := w.state.port.wantedBy)
    (envs := tabLane (((w.watches i).advanceRelays).sampleEnv i)) (ls := w.state.lanes)
    (fun j hprotection hreleased => by rw [henv] at *; exact hsame hprotection hreleased) hfits k
  rw [henv] at hworked
  rw [hlane, hwanted]
  exact hworked

/-- After a sample event's blocks have performed and reported, the part agrees (R149). -/
theorem Work.Settled.report_perform : (w.perform i).report.state.EngineAgrees := by
  have hcontrol := perform_control i w
  have hport : (w.perform i).state.port = (lanedWork i w).state.port := perform_port i w
  have hfits : ∀ k, (getLane (w.perform i).state.lanes k).Fits w.state.control.engine
      ((w.perform i).state.port.wantedBy k) := by
    intro k
    rw [perform_lane, hport]
    have hk := h.laned i k
    exact ⟨hk.held, hk.slots, hk.request, hk.wanted⟩
  have hcommand : ∀ x, getPhase (w.perform i).state.composer.closeCommand x = true →
      w.state.control.engine.live = true := by
    intro x hclose
    rw [perform_composer] at hclose
    change getPhase (tabPhase _) x = true at hclose
    rw [getPhase_tabPhase] at hclose
    exact live_of_commandFor hclose
  have hrelay : ∀ x, getPhase (w.perform i).state.relays.relay x =
      if present w.state.control.mode x then
        (getPhase w.state.relays.relay x).advance.command (getPhase (w.perform i).state.composer.closeCommand x)
          w.protection w.state.relays.closeTime w.state.relays.openTime
      else getPhase w.state.relays.relay x := by
    intro x
    rw [perform_relays]
    simp only [Relays.command, Relays.advance, getPhase_tabPhase]
    split <;> rfl
  have hload : (w.perform i).state.port.loadRequest = w.state.port.loadRequest ∧
      (w.perform i).state.port.loadInFlight = w.state.port.loadInFlight := by
    rw [hport]
    exact ⟨rfl, loadInFlight_discard _ _⟩
  have hdrive : ∀ x, (getPhase (w.perform i).state.relays.relay x).driveOutput = true →
      w.state.control.engine.live = true := by
    intro x hx
    rw [hrelay x] at hx
    cases hpresent : present w.state.control.mode x with
    | true =>
      rw [hpresent, if_pos rfl] at hx
      obtain hclose | ⟨hunprotected, hbefore⟩ := driveOutput_of_command hx
      · exact hcommand x hclose
      · obtain hprotection | hlive := h.relays x hbefore
        · rw [hunprotected] at hprotection; cases hprotection
        · exact hlive
    | false =>
      rw [hpresent, if_neg Bool.false_ne_true, driveOutput_of_opened (h.absent x hpresent)] at hx
      cases hx
  obtain ⟨hprogress, hopened⟩ := progressDue_fits (w.perform i)
  exact
    { states := fun k => by
        change (getLane (w.perform i).state.lanes k).state.heldIn (w.perform i).state.control.engine = true
        rw [hcontrol]
        exact (hfits k).held
      slots := fun k => (hfits k).slots
      requests := fun k => (hfits k).request
      wanted := fun k => (hfits k).wanted
      claims := by
        refine (perform_claims (i := i) (w := w)).trans (claimsOf_congr fun k => ?_).symm
        change Lane.KeepsClaims _ (getLane (w.perform i).state.lanes k)
        rw [perform_lane]
        exact .inl ⟨rfl, rfl⟩
      progress := hprogress
      opened := hopened
      deferred := by
        change (w.perform i).state.control.deferredClear = true → (w.perform i).state.control.engine = .tripped
        rw [hcontrol]
        exact h.deferred
      relays := by
        change ∀ x, _ → (w.perform i).state.control.engine.live = true
        rw [hcontrol]
        exact hdrive
      absent := by
        intro x hpresent
        change present (w.perform i).state.control.mode x = false at hpresent
        rw [hcontrol] at hpresent
        change (getPhase (w.perform i).state.relays.relay x).state = .opened
        rw [hrelay x, hpresent, if_neg Bool.false_ne_true]
        exact h.absent x hpresent
      load := by
        change (w.perform i).state.port.loadRequest = true ∨ (w.perform i).state.port.loadInFlight = true →
          (w.perform i).state.control.engine = .loading
        rw [hcontrol, hload.1, hload.2]
        exact h.load
      once := by
        change (w.perform i).state.port.loadRequest = true → (w.perform i).state.port.loadInFlight = false
        rw [hload.1, hload.2]
        exact h.once }

end

theorem State.EngineAgrees.sampleWork {s : State} (h : s.EngineAgrees) (i : SampleInputs) (hrst : s.rstLow = false) :
    (sampleWork i s).state.EngineAgrees := by
  rw [sampleWork_eq i s hrst]
  have hreported := (Work.settled_settle (w := { state := s }) h i).report_perform i
  have hexpired := Work.agrees_expire hreported (!i.expiryFirst)
  exact Work.agrees_dropHead (w := (((Work.settle i { state := s }).perform i).report.expire (!i.expiryFirst)).enqueue)
    (hexpired.same rfl rfl rfl rfl rfl (fun _ => rfl) rfl) true

/-- Every command keeps the agreement. -/
theorem State.EngineAgrees.effect {s t : State} {c : Instr} (h : s.EngineAgrees) (heffect : Effect s c t) :
    t.EngineAgrees := by
  cases heffect with
  | ignored => exact h
  | powerOn => exact engineAgrees_powerOn _ _
  | softReset => exact engineAgrees_softened s
  | heldLow => exact h.heldLow
  | start hengine => exact h.started hengine
  | release =>
    exact
      { states := h.states, slots := h.slots, requests := h.requests, wanted := h.wanted, claims := h.claims
        progress := h.progress, opened := h.opened, deferred := h.deferred, relays := h.relays, absent := h.absent
        load := h.load, once := h.once }
  | nudge =>
    obtain ⟨hwanted, hflight, hrequest⟩ := requestScan_marks s.port
    exact h.same rfl rfl rfl rfl hrequest hwanted hflight
  | clear hengine => exact h.cleared hengine
  | deferClear hengine => exact h.deferClear hengine
  | flags | mask | planBase | receive => exact h.same rfl rfl rfl rfl rfl (fun _ => rfl) rfl
  | stop k => exact h.stopped k
  | resume k hstate => exact h.resumed hstate
  | sample _ i hrst => exact h.sampleWork i hrst
  | grant hslot hgrant => exact h.granted hslot hgrant
  | disowned => exact h.freeSlot
  | completed tr hslot horphan hdone => exact h.completed hslot horphan hdone
  | failed => exact h.failNow

/-- Settles O60. -/
theorem engineStaysInAgreement : Obligations.EngineStaysInAgreement := by
  intro s t h hstep
  obtain rfl | ⟨c, rest, -, hexec⟩ := step_cases hstep
  · exact h
  · have hqueue : ({ s with pending := rest } : State).EngineAgrees := h.same rfl rfl rfl rfl rfl (fun _ => rfl) rfl
    exact hqueue.effect (effect_of_exec hexec)

/-- Settles O56: the reset state is the power-on reset with both mode pins low. -/
theorem resetMeetsTheInvariants : Obligations.ResetMeetsTheInvariants := by
  have hsound : ∀ {L : PerPhase Int → Prop}, L (perPhase 0) → State.reset.Sound L := fun hzero =>
    ⟨fun k => by
      change Lane.Sound _ (getLane (perLane Lane.reset) k)
      rw [getLane_perLane]
      exact Lane.sound_reset hzero, fun _ h => nomatch h⟩
  refine ⟨(State.books_powerOn 0 []).inOrder, ?_, ?_, engineAgrees_powerOn 0 []⟩
  · exact (State.frequencyInRange_iff _).2 ⟨hsound trivial, Timebase.inRange_reset 0⟩
  · exact (State.levelsInRange_iff _).2 ⟨hsound (levelsInRange_perPhase levelInRange_zero), Composer.inRange_reset,
      settingsInRange_powerOn 0 []⟩

end Sys2Proof.Machine
end

section
/-! ### Resets, run commands and the register window (R150 to R176) -/

namespace Sys2Proof.Machine

/-! #### Resets -/

theorem modeOfPins_toNat (mode1 mode0 : Bool) : (modeOfPins mode1 mode0).toNat = 2 * mode1.toNat + mode0.toNat := by
  revert mode1 mode0
  decide

/-- The nominal offsets that power-on reset leaves, by the mode pins (R87, R96). -/
theorem resetOffsets_modeOfPins (mode1 mode0 : Bool) :
    getPhase (resetOffsets (modeOfPins mode1 mode0)) .A = 0 ∧
      (mode1 = false → mode0 = true → getPhase (resetOffsets (modeOfPins mode1 mode0)) .B = 0x80000000) ∧
      (mode1 = true → mode0 = false → getPhase (resetOffsets (modeOfPins mode1 mode0)) .B = 2863311531 ∧
        getPhase (resetOffsets (modeOfPins mode1 mode0)) .C = 1431655765) ∧
      (mode1 = true → mode0 = true → getPhase (resetOffsets (modeOfPins mode1 mode0)) .B = 0 ∧
        getPhase (resetOffsets (modeOfPins mode1 mode0)) .C = 0) := by
  revert mode1 mode0
  decide

/-- Settles O5: each value stands in the definition of its block's reset. -/
theorem powerOnResetValues : Obligations.PowerOnResetValues := by
  intro mode1 mode0 s
  have hoffsets := resetOffsets_modeOfPins mode1 mode0
  refine ⟨State.powerOn (modeOfPins mode1 mode0) s.pending, rfl, ?_⟩
  have hlanes : ∀ k, getLane (State.powerOn (modeOfPins mode1 mode0) s.pending).lanes k = Lane.reset :=
    getLane_perLane _
  simp only [hlanes]
  simp [State.powerOn, Control.reset, modeOfPins_toNat, Port.reset, Lane.reset, Watch.idle, Timebase.reset,
    Composer.reset, Synth.reset, Relays.reset, Link.reset, Measure.reset, Journal.reset, Window.reset]
  exact hoffsets

/-- Settles O6. -/
theorem softResetValues : Obligations.SoftResetValues := by
  intro s hrst
  refine ⟨s.softened, whileReleased_of_released hrst _, rfl, rfl, rfl, rfl,
    fun k => ⟨getLane_perLane _ k, getLane_perLane _ k⟩, rfl, rfl, rfl, rfl, rfl, rfl, rfl, rfl, rfl, rfl, rfl, rfl, rfl,
    rfl, rfl, rfl, rfl, fun x => ⟨getPhase_perPhase _ x, getPhase_perPhase _ x⟩⟩

/-! #### Run commands -/

/-- Settles O8. -/
theorem startEntersLoading : Obligations.StartEntersLoading :=
  ⟨fun _ hrst hengine => exec_start_of_standby hrst hengine, fun _ hrst hengine => exec_start_of_ne_standby hrst hengine⟩

theorem exec_nudge {s : State} (hrst : s.rstLow = false) :
    exec .nudge s = .next (if s.control.engine = .loading then s else { s with port := s.port.requestScan }) :=
  whileReleased_of_released hrst _

/-- A request for a scan is held, unless one is in flight that takes it (R5). -/
theorem requestScan_of_no_scan {p : Port} (h : ∀ tr, p.slot = some tr → tr.kind = .scan → tr.orphan = true) :
    p.requestScan = { p with scanRequest := true } := by
  obtain heq | ⟨-, tr, hslot, hkind, horphan⟩ := Port.requestScan_spec p
  · exact heq
  · rw [h tr hslot hkind] at horphan
    cases horphan

theorem requestScan_of_scan {p : Port} {tr : Transaction} (hslot : p.slot = some tr) (hkind : tr.kind = .scan)
    (horphan : tr.orphan = false) : p.requestScan = p := by
  unfold Port.requestScan
  rw [hslot]
  exact if_pos ⟨hkind, horphan⟩

/-- Settles O9. -/
theorem releaseAndNudgeAreRequests : Obligations.ReleaseAndNudgeAreRequests := by
  refine ⟨fun s hrst => ⟨fun hengine => ?_, exec_release_of_loading hrst⟩, fun s hrst => ⟨?_, ?_, ?_⟩⟩
  · exact (whileReleased_of_released hrst _).trans (congrArg Host.Outcome.next (if_neg hengine))
  · intro hengine hscan
    rw [exec_nudge hrst, if_neg hengine, requestScan_of_no_scan hscan]
  · intro tr hslot hkind horphan
    rw [exec_nudge hrst, requestScan_of_scan hslot hkind horphan, ite_self]
  · intro hengine
    rw [exec_nudge hrst, if_pos hengine]

theorem allPresent_eq_false {mode : BitVec 2} {rs : Relays} {st : RelayState} {x : Phase} (hpresent : present mode x = true)
    (hstate : (getPhase rs.relay x).state ≠ st) : allPresent mode rs st = false :=
  Bool.eq_false_iff.2 fun h => hstate ((allPresent_iff mode rs st).1 h x hpresent)

/-- CLEAR in FAULTED is acted on once the FAULT line is no longer asserted (R159). -/
theorem exec_clear_of_faulted {s : State} (hrst : s.rstLow = false) (hengine : s.control.engine = .faulted) :
    exec .clear s = .next (if s.link.fault then s else s.cleared) :=
  (whileReleased_of_released hrst _).trans (by rw [hengine])

theorem exec_clear_of_deferred {s : State} (hrst : s.rstLow = false) (hengine : s.control.engine = .tripped)
    (hclear : s.control.deferredClear = true) : exec .clear s = .next s :=
  (whileReleased_of_released hrst _).trans (by rw [hengine, hclear]; rfl)

theorem exec_clear_elsewhere {s : State} (hrst : s.rstLow = false) (htripped : s.control.engine ≠ .tripped)
    (hfaulted : s.control.engine ≠ .faulted) : exec .clear s = .next s := by
  refine (whileReleased_of_released hrst _).trans (congrArg Host.Outcome.next ?_)
  split
  · exact absurd ‹_› htripped
  · exact absurd ‹_› hfaulted
  · rfl

/-- Settles O10, one case of the engine state after another. -/
theorem clearLeavesTripOrFault : Obligations.ClearLeavesTripOrFault := by
  intro s hrst
  refine ⟨?_, ?_, ?_⟩
  · rintro (⟨hengine, hclear, hopened⟩ | ⟨hengine, hfault⟩)
    · exact exec_clear_of_opened hrst hengine hclear ((allPresent_iff _ _ _).2 hopened)
    · rw [exec_clear_of_faulted hrst hengine, hfault]
      rfl
  · rintro hengine hclear ⟨x, hpresent, hstate⟩
    exact exec_clear_of_not_opened hrst hengine hclear (allPresent_eq_false hpresent hstate)
  · rintro (⟨hengine, hclear⟩ | ⟨hengine, hfault⟩ | ⟨htripped, hfaulted⟩)
    · exact exec_clear_of_deferred hrst hengine hclear
    · rw [exec_clear_of_faulted hrst hengine, hfault]
      rfl
    · exact exec_clear_elsewhere hrst htripped hfaulted

/-! #### Flags, mask and lines -/

theorem zero_getLsbD (n : Nat) : (0 : Word).getLsbD n = false := BitVec.getLsbD_zero

theorem flagBits_getLsbD (n : Nat) : flagBits.getLsbD n = decide (n < 6) := by
  by_cases hn : n < 32
  · exact (by decide : ∀ m : Fin 32, flagBits.getLsbD m = decide (m.val < 6)) ⟨n, hn⟩
  · rw [BitVec.getLsbD_of_ge _ _ (by omega), decide_eq_false (by omega)]

theorem maskBits_getLsbD (n : Nat) : maskBits.getLsbD n = (decide (n < 6) || (decide (8 ≤ n) && decide (n < 14))) := by
  by_cases hn : n < 32
  · exact (by decide : ∀ m : Fin 32, maskBits.getLsbD m =
      (decide (m.val < 6) || (decide (8 ≤ m.val) && decide (m.val < 14)))) ⟨n, hn⟩
  · rw [BitVec.getLsbD_of_ge _ _ (by omega), decide_eq_false (by omega), decide_eq_false (p := n < 14) (by omega),
      Bool.and_false, Bool.or_false]

/-- A word has a flag bit set when it has one of the six. -/
theorem flagBits_ne_zero_iff (w : Word) : (w &&& flagBits != 0) = true ↔ ∃ n : Nat, n < 6 ∧ w.getLsbD n = true := by
  rw [bne_iff_ne]
  constructor
  · intro hne
    by_contra hnone
    refine hne (BitVec.eq_of_getLsbD_eq fun n _ => ?_)
    rw [BitVec.getLsbD_and, flagBits_getLsbD, zero_getLsbD]
    by_cases hn : n < 6
    · rw [Bool.eq_false_iff.2 fun hset => hnone ⟨n, hn, hset⟩, Bool.false_and]
    · rw [decide_eq_false hn, Bool.and_false]
  · rintro ⟨n, hn, hset⟩ hzero
    have hbit := congrArg (fun v : Word => v.getLsbD n) hzero
    simp only [BitVec.getLsbD_and, flagBits_getLsbD, zero_getLsbD, hset, decide_eq_true hn] at hbit
    cases hbit

/-- ALERT's condition, bit by bit: some flag is set and enabled with line choice 0 (R174). -/
theorem alertCondition_iff (flags mask : Word) : alertCondition flags mask = true ↔
    ∃ n : Nat, n < 6 ∧ flags.getLsbD n = true ∧ mask.getLsbD n = true ∧ mask.getLsbD (8 + n) = false := by
  unfold alertCondition
  rw [flagBits_ne_zero_iff]
  refine exists_congr fun n => and_congr_right fun hn => ?_
  simp only [BitVec.getLsbD_and, BitVec.getLsbD_not, BitVec.getLsbD_ushiftRight, decide_eq_true (show n < 32 by omega),
    Bool.true_and, Bool.and_eq_true, Bool.not_eq_true', and_assoc]

/-- NOTICE's condition, bit by bit: some flag is set and enabled with line choice 1 (R174). -/
theorem noticeCondition_iff (flags mask : Word) : noticeCondition flags mask = true ↔
    ∃ n : Nat, n < 6 ∧ flags.getLsbD n = true ∧ mask.getLsbD n = true ∧ mask.getLsbD (8 + n) = true := by
  unfold noticeCondition
  rw [flagBits_ne_zero_iff]
  refine exists_congr fun n => and_congr_right fun _ => ?_
  simp only [BitVec.getLsbD_and, BitVec.getLsbD_ushiftRight, Bool.and_eq_true, and_assoc]

/-- Of a mask as it is taken, an enable and a line choice are those written (R174). -/
theorem masked_getLsbD {n : Nat} (hn : n < 6) (value : Word) :
    (value &&& maskBits).getLsbD n = value.getLsbD n ∧ (value &&& maskBits).getLsbD (8 + n) = value.getLsbD (8 + n) := by
  simp only [BitVec.getLsbD_and, maskBits_getLsbD, decide_eq_true hn, decide_eq_true (show 8 ≤ 8 + n by omega),
    decide_eq_true (show 8 + n < 14 by omega), Bool.true_or, Bool.and_true, Bool.or_true, and_self]

/-- Settles O12. -/
theorem flagsAndMaskWritesSteerTheLines : Obligations.FlagsAndMaskWritesSteerTheLines := by
  constructor
  · intro value s hrst _
    exact ⟨_, whileReleased_of_released hrst _, rfl, rfl, fun n => BitVec.getLsbD_and, alertCondition_iff _ _,
      noticeCondition_iff _ _⟩
  · intro value s hrst
    refine ⟨_, whileReleased_of_released hrst _, rfl, rfl, fun n => ?_, (alertCondition_iff _ _).trans ?_,
      (noticeCondition_iff _ _).trans ?_⟩
    · exact BitVec.getLsbD_and.trans (by rw [maskBits_getLsbD])
    all_goals
      refine exists_congr fun n => and_congr_right fun hn => ?_
      rw [(masked_getLsbD hn value).1, (masked_getLsbD hn value).2]

/-! #### The base and the ignored writes -/

/-- A mask that drops the low bits of a word rounds it down. -/
theorem toNat_and_of_dropsLow {mask : Word} {k : Nat} (hmask : ∀ n, n < 32 → mask.getLsbD n = !decide (n < k))
    (w : Word) : (w &&& mask).toNat = w.toNat / 2 ^ k * 2 ^ k := by
  have hshift : w &&& mask = (w >>> k) <<< k := by
    refine BitVec.eq_of_getLsbD_eq fun n hn => ?_
    rw [BitVec.getLsbD_and, hmask n hn, BitVec.getLsbD_shiftLeft, BitVec.getLsbD_ushiftRight, decide_eq_true hn,
      Bool.true_and]
    by_cases hlow : n < k
    · rw [decide_eq_true hlow]; simp
    · rw [decide_eq_false hlow, Nat.add_sub_cancel' (by omega)]; simp
  rw [hshift, BitVec.toNat_shiftLeft, BitVec.toNat_ushiftRight, Nat.shiftLeft_eq, Nat.shiftRight_eq_div_pow]
  exact Nat.mod_eq_of_lt (lt_of_le_of_lt (Nat.div_mul_le_self _ _) w.isLt)

/-- The base is the word written with its low 12 bits 0 (R1). -/
theorem planBaseOf_toNat (value : Word) : (planBaseOf value).toNat = value.toNat / 4096 * 4096 :=
  toNat_and_of_dropsLow (k := 12)
    (fun n hn => (by decide : ∀ m : Fin 32, (0xFFFFF000#32).getLsbD m = !decide (m.val < 12)) ⟨n, hn⟩) value

/-- Settles O13. -/
theorem planbaseAndIgnoredWrites : Obligations.PlanbaseAndIgnoredWrites := by
  refine ⟨fun value s hrst => ⟨fun hengine => ⟨planBaseOf value, planBaseOf_toNat value, ?_⟩, fun hengine => ?_⟩, ?_⟩
  · exact (whileReleased_of_released hrst _).trans (congrArg Host.Outcome.next (if_pos hengine))
  · exact (whileReleased_of_released hrst _).trans (congrArg Host.Outcome.next (if_neg hengine))
  · intro offset size value s hignored
    refine if_pos ?_
    simpa only [reservedOffset, Bool.and_eq_true, decide_eq_true_eq] using hignored

/-! #### Lane control -/

/-- Settles O14. -/
theorem laneStopBecomesPending : Obligations.LaneStopBecomesPending := by
  intro k s hrst
  constructor
  · intro hstate
    have hkind : ∀ kind : BusKind, kind.unwanted (fun j => decide (j = k)) =
        match kind with
        | .laneFetch j f wanted => .laneFetch j f (wanted && decide (j ≠ k))
        | kind => kind := by
      intro kind
      cases kind with
      | laneFetch j f wanted => simp only [BusKind.unwanted, decide_not]
      | _ => rfl
    refine (whileReleased_of_released hrst _).trans (congrArg Host.Outcome.next ((if_neg hstate).trans ?_))
    simp only [Port.discardFetches, hkind] <;> rfl
  · intro hstate
    exact (whileReleased_of_released hrst _).trans (congrArg Host.Outcome.next (if_pos hstate))

/-! #### Lane work by its outcome -/

theorem halfIndex_of_lt {n : Nat} (h : n < 65536) : halfIndex n = BitVec.ofNat 16 n := if_pos h

theorem halfIndex_cueSlot (taken : Word) : halfIndex (cueSlot taken) = BitVec.ofNat 16 (taken.toNat % 16) :=
  halfIndex_of_lt (lt_of_lt_of_le (Nat.mod_lt _ (by decide)) (by decide))

section
variable {s : State} {k : LaneId} {f : LaneEnv → Lane → LaneOut} {l : Lane}

/-- Lane work that hands nothing on changes the lane alone. -/
theorem runLane_of_quiet (h : f (s.laneEnv k) (getLane s.lanes k) = { lane := l }) :
    s.runLane k f = { s with lanes := setLane s.lanes k l } := by
  rw [State.runLane, h]
  rfl

/-- A refusal for the current slot halts the lane and posts its two records (R40). -/
theorem runLane_of_refused_current {cause : Refused} {offending index : Half}
    (h : f (s.laneEnv k) (getLane s.lanes k) = refuse (s.laneEnv k) cause offending index l)
    (hstate : l.state = .idle ∨ l.state = .fetching) :
    s.runLane k f = { s with
      lanes := setLane s.lanes k l.halted
      journal := (s.journal.post (s.record (some k) index (.planRefused cause offending))).post
        (s.record (some k) index (.laneHalted cause))
      window := s.window.setFlag .plan } := by
  rw [State.runLane, h, refuse, if_pos hstate]
  rfl

/-- A refusal for the next slot leaves it REFUSED and posts PLAN_REFUSED (R40). -/
theorem runLane_of_refused_next {cause : Refused} {offending index : Half}
    (h : f (s.laneEnv k) (getLane s.lanes k) = refuse (s.laneEnv k) cause offending index l)
    (hidle : l.state ≠ .idle) (hfetching : l.state ≠ .fetching) :
    s.runLane k f = { s with
      lanes := setLane s.lanes k { l with next := .refused cause index, request := none }
      journal := s.journal.post (s.record (some k) index (.planRefused cause offending))
      window := s.window.setFlag .plan } := by
  rw [State.runLane, h, refuse, if_neg (by tauto)]
  rfl

end

/-- The cue test of a lane that needs an episode, in the states in which it is applied (R7). -/
theorem cueTest_of_needs {e : LaneEnv} {l : Lane} (hopen : e.engine.cueOpen = true) (hneeds : l.needsEpisode = true) :
    (cueDistance e.posted e.taken = 0 → cueTest e l = { lane := l }) ∧
      (1 ≤ cueDistance e.posted e.taken → cueDistance e.posted e.taken ≤ 16 →
        cueTest e l = { lane := l.requestCue }) ∧
      (17 ≤ cueDistance e.posted e.taken →
        cueTest e l = refuse e .cueCount (halfIndex (cueSlot e.taken)) noEpisode l) :=
  (cueTest_spec e l).2 (by rw [hopen, hneeds]; rfl)

theorem cueTest_of_closed {e : LaneEnv} (l : Lane) (hclosed : e.engine.cueOpen = false) : cueTest e l = { lane := l } :=
  (cueTest_spec e l).1 (by rw [hclosed]; rfl)

theorem cueDistance_self (w : Word) : cueDistance w w = 0 := by simp [cueDistance]

/-- Settles O15: the lane is IDLE, so it needs an episode, and the three outcomes of the cue test are the clauses. -/
theorem laneResumeFreesAHaltedLane : Obligations.LaneResumeFreesAHaltedLane := by
  intro k s hrst
  have hexec : exec (.laneResume k) s = .next _ := whileReleased_of_released hrst
    (if (getLane s.lanes k).state = .halted ∧ (getLane s.lanes k).pendingStop = false then s.resumed k else s)
  constructor
  · rintro hother
    refine Eq.trans hexec (congrArg Host.Outcome.next (if_neg ?_))
    rintro ⟨hstate, hstop⟩
    obtain hne | hpending := hother
    · exact hne hstate
    · rw [hstop] at hpending; cases hpending
  · intro hstate hstop
    rw [if_pos ⟨hstate, hstop⟩] at hexec
    refine ⟨s.resumed k, hexec, rfl, fun j hj => getLane_setLane_of_ne _ hj _, ?_, ?_, ?_⟩
    · intro hclosed
      have hquiet : cueTest (s.laneEnv k) { getLane s.lanes k with state := .idle, late := false } =
          { lane := { getLane s.lanes k with state := .idle, late := false } } := by
        by_cases hopen : s.control.engine.cueOpen = true
        · obtain hclosed | hequal := hclosed
          · rw [hclosed] at hopen; cases hopen
          · refine (cueTest_of_needs hopen rfl).1 ?_
            change cueDistance (getLane s.port.posted k) (getLane s.port.taken k) = 0
            rw [hequal, cueDistance_self]
        · exact cueTest_of_closed _ (Bool.eq_false_iff.2 hopen)
      rw [State.resumed, runLane_of_quiet hquiet]
      exact ⟨by rw [getLane_setLane_same], rfl, rfl⟩
    · intro hopen hlow hhigh
      have hcue : cueTest (s.laneEnv k) { getLane s.lanes k with state := .idle, late := false } =
          { lane := { getLane s.lanes k with state := .fetching, late := false, request := some .cue } } := by
        rw [(cueTest_of_needs (e := s.laneEnv k) hopen rfl).2.1 hlow hhigh,
          (Lane.requestCue_spec { getLane s.lanes k with state := .idle, late := false }).2.1 hstop rfl]
      rw [State.resumed, runLane_of_quiet hcue]
      exact ⟨by rw [getLane_setLane_same], by rw [getLane_setLane_same], rfl, rfl⟩
    · intro hopen hfar
      have hrefused := (cueTest_of_needs (e := s.laneEnv k)
        (l := { getLane s.lanes k with state := .idle, late := false }) hopen rfl).2.2 hfar
      rw [State.resumed, runLane_of_refused_current hrefused (.inl rfl), halfIndex_cueSlot]
      exact ⟨by rw [getLane_setLane_same]; rfl, rfl, rfl⟩

/-! #### Reads -/

theorem code_testBit {n : Nat} (h : 3 ≤ n) (e : EngineState) : e.code.testBit n = false :=
  Nat.testBit_lt_two_pow (lt_of_lt_of_le (by cases e <;> decide : e.code < 2 ^ 3) (Nat.pow_le_pow_right (by decide) h))

theorem relayCode_testBit {n : Nat} (h : 2 ≤ n) (r : RelayState) : (relayCode r).testBit n = false :=
  Nat.testBit_lt_two_pow (lt_of_lt_of_le (by cases r <;> decide : relayCode r < 2 ^ 2)
    (Nat.pow_le_pow_right (by decide) h))

theorem bitIf_getLsbD (b : Bool) {m : Nat} (hm : m < 32) (n : Nat) : (bitIf b m).getLsbD n = (b && decide (n = m)) := by
  unfold bitIf
  cases b with
  | false => simp
  | true =>
    rw [if_pos rfl, BitVec.getLsbD_shiftLeft]
    by_cases hn : n < 32
    · by_cases heq : n = m
      · subst heq; simp [hn]
      · have hrest : ¬ n < m → 1 ≤ n - m := by omega
        by_cases hlow : n < m
        · simp [hlow, heq]
        · simp [hn, heq, BitVec.getLsbD_one, Nat.sub_ne_zero_of_lt (show m < n by omega)]
    · have hne : n ≠ m := by omega
      simp [hn, hne]

/-- The bit of a lane in a register that has one bit for each lane from a place up. -/
theorem laneBits_getLsbD (f : LaneId → Bool) {m : Nat} (hm : m ≤ 16) (n : Nat) :
    (allLanes.foldl (fun w k => w ||| bitIf (f k) (m + laneNumber k)) 0).getLsbD n =
      allLanes.any fun k => f k && decide (n = m + laneNumber k) := by
  simp only [allLanes, List.foldl_cons, List.foldl_nil, List.any_cons, List.any_nil, BitVec.getLsbD_or, laneNumber,
    bitIf_getLsbD _ (show m + 0 < 32 by omega), bitIf_getLsbD _ (show m + 1 < 32 by omega),
    bitIf_getLsbD _ (show m + 2 < 32 by omega), bitIf_getLsbD _ (show m + 3 < 32 by omega),
    bitIf_getLsbD _ (show m + 4 < 32 by omega), bitIf_getLsbD _ (show m + 5 < 32 by omega), zero_getLsbD,
    Bool.false_or, Bool.or_false, Bool.or_assoc]
  rfl

theorem laneBits_getLsbD_lane (f : LaneId → Bool) {m : Nat} (hm : m ≤ 16) (k : LaneId) :
    (allLanes.foldl (fun w k => w ||| bitIf (f k) (m + laneNumber k)) 0).getLsbD (m + laneNumber k) = f k := by
  rw [laneBits_getLsbD f hm]
  cases k <;> simp [allLanes, laneNumber]

theorem laneBits_getLsbD_other (f : LaneId → Bool) {m : Nat} (hm : m ≤ 16) {n : Nat} (hn : n < m ∨ m + 6 ≤ n) :
    (allLanes.foldl (fun w k => w ||| bitIf (f k) (m + laneNumber k)) 0).getLsbD n = false := by
  rw [laneBits_getLsbD f hm, List.any_eq_false]
  intro k _
  have hne : n ≠ m + laneNumber k := by cases k <;> simp only [laneNumber] <;> omega
  simp [hne]

/-- The relay state of a phase as STAT codes it: 0 for an absent phase (R172). -/
def relayField (s : State) (x : Phase) : Nat :=
  if present s.control.mode x then relayCode (getPhase s.relays.relay x).state else 0

theorem relayField_testBit {n : Nat} (h : 2 ≤ n) (s : State) (x : Phase) : (relayField s x).testBit n = false := by
  unfold relayField
  split
  · exact relayCode_testBit h _
  · exact Nat.zero_testBit n

/-- The bit of a number that is placed in a register from a place up. -/
theorem field_getLsbD {v m n : Nat} (hn : n < 32) :
    (BitVec.ofNat 32 v <<< m).getLsbD n = (decide (m ≤ n) && v.testBit (n - m)) := by
  rw [BitVec.getLsbD_shiftLeft, BitVec.getLsbD_ofNat, decide_eq_true hn, decide_eq_true (show n - m < 32 by omega),
    Bool.true_and, Bool.true_and]
  simp only [← decide_not, Nat.not_lt]

theorem stat_getLsbD (s : State) {n : Nat} (hn : n < 32) : s.stat.getLsbD n =
    (s.control.engine.code.testBit n || (decide (4 ≤ n) && (relayField s .A).testBit (n - 4)) ||
      (decide (6 ≤ n) && (relayField s .B).testBit (n - 6)) || (decide (8 ≤ n) && (relayField s .C).testBit (n - 8)) ||
      (s.link.ready && decide (n = 10)) || (s.link.fault && decide (n = 11)) || (s.port.jbad && decide (n = 12)) ||
      (allLanes.foldl (fun w k => w ||| bitIf (decide ((getLane s.lanes k).state = .halted)) (16 + laneNumber k))
        0).getLsbD n) := by
  have hrelay : ∀ (x : Phase) (m : Nat),
      (if present s.control.mode x then BitVec.ofNat 32 (relayCode (getPhase s.relays.relay x).state) <<< m
        else 0).getLsbD n = (decide (m ≤ n) && (relayField s x).testBit (n - m)) := by
    intro x m
    unfold relayField
    split
    · exact field_getLsbD hn
    · rw [zero_getLsbD, Nat.zero_testBit, Bool.and_false]
  simp only [State.stat, BitVec.getLsbD_or, hrelay, BitVec.getLsbD_ofNat, decide_eq_true hn, Bool.true_and,
    bitIf_getLsbD _ (show 10 < 32 by decide), bitIf_getLsbD _ (show 11 < 32 by decide),
    bitIf_getLsbD _ (show 12 < 32 by decide)]

/-- A field of two bits of a register, by its bits. -/
theorem field_eq_of_getLsbD {w : Word} {m size v : Nat} (hbits : ∀ i, i < size → w.getLsbD (m + i) = v.testBit i)
    (hv : v < 2 ^ size) : w.toNat / 2 ^ m % 2 ^ size = v := by
  refine Nat.eq_of_testBit_eq fun i => ?_
  rw [Nat.testBit_mod_two_pow, Nat.testBit_div_two_pow, BitVec.testBit_toNat]
  by_cases hi : i < size
  · rw [decide_eq_true hi, Bool.true_and, Nat.add_comm, hbits i hi]
  · rw [decide_eq_false hi, Bool.false_and,
      Nat.testBit_lt_two_pow (lt_of_lt_of_le hv (Nat.pow_le_pow_right (by decide) (by omega)))]

theorem relayField_lt (s : State) (x : Phase) : relayField s x < 2 ^ 2 := by
  unfold relayField
  split
  · cases (getPhase s.relays.relay x).state <;> decide
  · decide

/-- STAT, field by field (R170, R172). -/
theorem stat_fields (s : State) :
    s.stat.toNat % 8 = s.control.engine.code ∧ s.stat.getLsbD 3 = false ∧
      (∀ x n, (x, n) ∈ [(Phase.A, 4), (Phase.B, 6), (Phase.C, 8)] → s.stat.toNat / 2 ^ n % 4 = relayField s x) ∧
      s.stat.getLsbD 10 = s.link.ready ∧ s.stat.getLsbD 11 = s.link.fault ∧ s.stat.getLsbD 12 = s.port.jbad ∧
      (∀ k, s.stat.getLsbD (16 + laneNumber k) = decide ((getLane s.lanes k).state = .halted)) ∧
      (∀ n : Nat, 13 ≤ n → n < 16 → s.stat.getLsbD n = false) ∧ ∀ n : Nat, 22 ≤ n → s.stat.getLsbD n = false := by
  have hcode : s.control.engine.code < 2 ^ 3 := by cases s.control.engine <;> decide
  have hlow : ∀ n, n < 16 →
      (allLanes.foldl (fun w k => w ||| bitIf (decide ((getLane s.lanes k).state = .halted)) (16 + laneNumber k))
        0).getLsbD n = false := fun n hn => laneBits_getLsbD_other _ (Nat.le_refl _) (.inl hn)
  refine ⟨?_, ?_, ?_, ?_, ?_, ?_, ?_, ?_, ?_⟩
  · have hfield := field_eq_of_getLsbD (w := s.stat) (m := 0) (fun i hi => ?_) hcode
    · simpa using hfield
    · rw [stat_getLsbD s (by omega), hlow _ (by omega)]
      simp [show ¬ 4 ≤ i by omega, show ¬ 6 ≤ i by omega, show ¬ 8 ≤ i by omega, show i ≠ 10 by omega,
        show i ≠ 11 by omega, show i ≠ 12 by omega]
  · rw [stat_getLsbD s (by decide), hlow _ (by decide), code_testBit (by decide)]
    simp
  · intro x n hx
    refine field_eq_of_getLsbD (size := 2) (fun i hi => ?_) (relayField_lt s x)
    rw [stat_getLsbD s (by simp at hx; omega), hlow _ (by simp at hx; omega), code_testBit (by simp at hx; omega)]
    obtain rfl | rfl : i = 0 ∨ i = 1 := by omega
    all_goals
      simp only [List.mem_cons, Prod.mk.injEq, List.not_mem_nil, or_false] at hx
      obtain ⟨rfl, rfl⟩ | ⟨rfl, rfl⟩ | ⟨rfl, rfl⟩ := hx
      all_goals simp [relayField_testBit]
  · rw [stat_getLsbD s (by decide), hlow _ (by decide), code_testBit (by decide)]
    simp [relayField_testBit]
  · rw [stat_getLsbD s (by decide), hlow _ (by decide), code_testBit (by decide)]
    simp [relayField_testBit]
  · rw [stat_getLsbD s (by decide), hlow _ (by decide), code_testBit (by decide)]
    simp [relayField_testBit]
  · intro k
    have hrange : 0 ≤ laneNumber k ∧ laneNumber k ≤ 5 := by cases k <;> decide
    rw [stat_getLsbD s (by omega), laneBits_getLsbD_lane _ (Nat.le_refl _), code_testBit (by omega),
      relayField_testBit (by omega), relayField_testBit (by omega), relayField_testBit (by omega)]
    simp [show 16 + laneNumber k ≠ 10 by omega, show 16 + laneNumber k ≠ 11 by omega,
      show 16 + laneNumber k ≠ 12 by omega]
  · intro n hge hlt
    rw [stat_getLsbD s (by omega), hlow n hlt, code_testBit (by omega), relayField_testBit (by omega),
      relayField_testBit (by omega), relayField_testBit (by omega)]
    simp [show n ≠ 10 by omega, show n ≠ 11 by omega, show n ≠ 12 by omega]
  · intro n hge
    by_cases hn : n < 32
    · rw [stat_getLsbD s hn, laneBits_getLsbD_other _ (Nat.le_refl _) (.inr hge), code_testBit (by omega),
        relayField_testBit (by omega), relayField_testBit (by omega), relayField_testBit (by omega)]
      simp [show n ≠ 10 by omega, show n ≠ 11 by omega, show n ≠ 12 by omega]
    · exact BitVec.getLsbD_of_ge _ _ (by omega)

/-- IDENT: the vendor code in the high half, the revision above the mode (R170). -/
theorem ident_fields (s : State) :
    s.ident.toNat / 65536 = 0x00D6 ∧ s.ident.toNat / 256 % 256 = 1 ∧ s.ident.toNat % 256 = s.control.mode.toNat := by
  unfold State.ident
  generalize s.control.mode = mode
  revert mode
  decide

/-- Below bit 14 every reserved bit of a mask in order is 0, and every bit from 14 up. -/
theorem listed_of_mask {mask : Word} (h : mask &&& 0xFFFFC0C0#32 = 0) {n : Nat} (hset : mask.getLsbD n = true) :
    n < 6 ∨ 8 ≤ n ∧ n < 14 := by
  by_contra hother
  have hn : n < 32 := by
    by_contra hge
    rw [BitVec.getLsbD_of_ge _ _ (by omega)] at hset
    cases hset
  have hreserved := (by decide : ∀ m : Fin 32, ¬ (m.val < 6 ∨ 8 ≤ m.val ∧ m.val < 14) →
    (0xFFFFC0C0#32).getLsbD m = true) ⟨n, hn⟩ hother
  have hbit := congrArg (fun w : Word => w.getLsbD n) h
  simp only [BitVec.getLsbD_and, zero_getLsbD, hset, Bool.true_and] at hbit
  rw [hbit] at hreserved
  cases hreserved

/-- A 4096-byte aligned base has its low 12 bits 0 (R1). -/
theorem low_of_aligned {base : Word} (h : base.toNat % 4096 = 0) {n : Nat} (hn : n < 12) : base.getLsbD n = false := by
  have hbit : (base.toNat % 2 ^ 12).testBit n = false := by
    rw [show base.toNat % 2 ^ 12 = 0 from h, Nat.zero_testBit]
  rwa [Nat.testBit_mod_two_pow, decide_eq_true hn, Bool.true_and, BitVec.testBit_toNat] at hbit

theorem readRegister_reserved {s : State} (hrst : s.rstLow = false) {offset : Nat} (hge : 0x1C ≤ offset)
    (hlt : offset < 0x20) : s.readRegister offset = some 0 := by
  unfold State.readRegister
  rw [hrst]
  interval_cases offset <;> rfl

/-- Settles O16: each register by the fields of its value. -/
theorem registersReadTheState : Obligations.RegistersReadTheState := by
  intro s hrst
  have hread : ∀ offset, s.readRegister offset = ({ s with rstLow := false }).readRegister offset := by
    rw [← hrst]
    exact fun _ => rfl
  refine ⟨⟨s.stat, hread _, stat_fields s⟩, ⟨s.ident, hread _, ident_fields s⟩, hread _, ⟨_, hread _, fun n => ?_⟩,
    hread _, hread _, fun hbooks => ⟨fun n => listed_of_mask hbooks.mask, fun n => low_of_aligned hbooks.base⟩,
    ⟨s.laneCtl, hread _, fun k => ?_, fun n hn => ?_⟩, fun _ => readRegister_reserved hrst⟩
  · rw [BitVec.getLsbD_and, flagBits_getLsbD, Bool.and_comm]
  · simpa only [State.laneCtl, Nat.zero_add] using laneBits_getLsbD_lane (fun k => (getLane s.lanes k).pendingStop)
      (Nat.zero_le 16) k
  · simpa only [State.laneCtl, Nat.zero_add] using laneBits_getLsbD_other (fun k => (getLane s.lanes k).pendingStop)
      (Nat.zero_le 16) (.inr (by omega : 0 + 6 ≤ n))

end Sys2Proof.Machine
end

section
/-! ### The Plan Port: grants, completions and failures (R1 to R19, R151, R166) -/

namespace Sys2Proof.Machine

/-! #### The arbiter -/

section
variable {s : State}

theorem exec_arbiterGrant (hrst : s.rstLow = false) (hslot : s.port.slot = none) :
    exec .arbiterGrant s = .next s.grantNext := by
  refine (whileReleased_of_released hrst _).trans (congrArg Host.Outcome.next ?_)
  unfold State.grant
  rw [hslot]

theorem grantNext_load (hload : s.port.loadRequest = true) : s.grantNext = s.grantLoad := if_pos hload

theorem grantNext_journal (hload : s.port.loadRequest = false) {head : Record} {rest : List Record}
    (hqueue : s.journal.queue = head :: rest) : s.grantNext = s.grantJournal head rest := by
  unfold State.grantNext
  rw [hload, hqueue]
  rfl

theorem grantNext_fetch (hload : s.port.loadRequest = false) (hqueue : s.journal.queue = []) {k : LaneId} {f : Fetch}
    (hfirst : firstFetch s.lanes = some (k, f)) : s.grantNext = s.grantFetch k f := by
  unfold State.grantNext
  rw [hload, hqueue, hfirst]
  rfl

theorem grantNext_taken (hload : s.port.loadRequest = false) (hqueue : s.journal.queue = [])
    (hlanes : firstFetch s.lanes = none) {k : LaneId} (hlowest : lowestLane s.port.takenRequest = some k) :
    s.grantNext = s.grantTaken k := by
  unfold State.grantNext
  rw [hload, hqueue, hlanes, hlowest]
  rfl

/-- With the load, the journal, the lanes and the taken counts waiting for nothing, the written count and the scan are
left (R16). -/
theorem grantNext_rest (hload : s.port.loadRequest = false) (hqueue : s.journal.queue = [])
    (hlanes : firstFetch s.lanes = none) (hlowest : lowestLane s.port.takenRequest = none) :
    s.grantNext = if s.port.writtenRequest then s.grantWritten else if s.port.scanRequest then s.grantScan else s := by
  unfold State.grantNext
  rw [hload, hqueue, hlanes, hlowest]
  rfl

/-- The state with the slot taken by a lane's read, its request no longer waiting. -/
def State.fetchGranted (s : State) (k : LaneId) (f : Fetch) (address : Word) (length : Nat) : State :=
  { s with
    lanes := setLane s.lanes k { getLane s.lanes k with request := none }
    port := s.port.issueRead (.laneFetch k f true) s.port.planBase address length }

theorem fetchGranted_lanes (k : LaneId) (f : Fetch) (address : Word) (length : Nat) :
    (∀ j, j ≠ k → getLane (s.fetchGranted k f address length).lanes j = getLane s.lanes j) ∧
      (getLane (s.fetchGranted k f address length).lanes k).request = none :=
  ⟨fun _ hj => getLane_setLane_of_ne _ hj _, by rw [State.fetchGranted, getLane_setLane_same]⟩

/-- A cue fetch that finds nothing posted at its grant is withdrawn (R8). -/
theorem grantFetch_cue_none {k : LaneId} (h : cueDistance (getLane s.port.posted k) (getLane s.port.taken k) = 0) :
    s.grantFetch k .cue = { s with lanes := setLane s.lanes k (getLane s.lanes k).withdrawCue } := if_pos h

theorem grantFetch_cue_near {k : LaneId} (hlow : 1 ≤ cueDistance (getLane s.port.posted k) (getLane s.port.taken k))
    (hhigh : cueDistance (getLane s.port.posted k) (getLane s.port.taken k) ≤ 16) :
    s.grantFetch k .cue = s.fetchGranted k .cue (s.port.cueAddress k (getLane s.port.taken k)) 1 :=
  (if_neg (by omega)).trans (if_pos hhigh)

theorem grantFetch_cue_far {k : LaneId} (h : 17 ≤ cueDistance (getLane s.port.posted k) (getLane s.port.taken k)) :
    s.grantFetch k .cue = s.runLane k fun e l =>
      refuse e .cueCount (halfIndex (cueSlot (getLane s.port.taken k))) noEpisode { l with request := none } :=
  (if_neg (by omega)).trans (if_neg (by omega))

theorem runLane_lanes_of_ne (k : LaneId) (f : LaneEnv → Lane → LaneOut) {j : LaneId} (hj : j ≠ k) :
    getLane (s.runLane k f).lanes j = getLane s.lanes j := getLane_setLane_of_ne _ hj _

theorem withdrawCue_spec (l : Lane) :
    l.withdrawCue.request = none ∧ (l.state = .fetching → l.withdrawCue.state = .idle) ∧
      (l.state ≠ .fetching → l.withdrawCue.state = l.state ∧ l.withdrawCue.next = .empty) := by
  unfold Lane.withdrawCue
  split
  · exact ⟨rfl, fun _ => rfl, fun hne => absurd ‹_› hne⟩
  · exact ⟨rfl, fun h => absurd h ‹_›, fun _ => ⟨rfl, rfl⟩⟩

end

/-- The clause of O17 on a lane's fetch, by the read that the fetch makes. -/
theorem grantFetch_outcome (s : State) (k : LaneId) (f : Fetch) :
    (∀ j, j ≠ k → getLane (s.grantFetch k f).lanes j = getLane s.lanes j) ∧
      (getLane (s.grantFetch k f).lanes k).request = none := by
  cases f with
  | cue =>
    obtain hnone | hnear | hfar : cueDistance (getLane s.port.posted k) (getLane s.port.taken k) = 0 ∨
        (1 ≤ cueDistance (getLane s.port.posted k) (getLane s.port.taken k) ∧
          cueDistance (getLane s.port.posted k) (getLane s.port.taken k) ≤ 16) ∨
        17 ≤ cueDistance (getLane s.port.posted k) (getLane s.port.taken k) := by omega
    · rw [grantFetch_cue_none hnone]
      exact ⟨fun _ hj => getLane_setLane_of_ne _ hj _, by rw [getLane_setLane_same, (withdrawCue_spec _).1]⟩
    · rw [grantFetch_cue_near hnear.1 hnear.2]
      exact fetchGranted_lanes _ _ _ _
    · rw [grantFetch_cue_far hfar]
      refine ⟨fun _ hj => runLane_lanes_of_ne _ _ hj, ?_⟩
      rw [State.runLane, State.withLane, getLane_setLane_same, refuse]
      split <;> rfl
  | _ => exact fetchGranted_lanes _ _ _ _

/-- Settles O17: the rank by `firstFetch` and `lowestLane`, then the fetch by its read. -/
theorem arbiterGrantsInRankOrder : Obligations.ArbiterGrantsInRankOrder := by
  intro s hrst
  refine ⟨?_, ?_, ?_, ?_, ?_, ?_⟩
  · intro tr hslot
    refine (whileReleased_of_released hrst _).trans (congrArg Host.Outcome.next ?_)
    unfold State.grant
    rw [hslot]
  · intro hslot hload
    rw [exec_arbiterGrant hrst hslot, grantNext_load hload, State.grantLoad, headerAddress, BitVec.add_zero]
    rfl
  · intro head rest hslot hload hqueue
    rw [exec_arbiterGrant hrst hslot, grantNext_journal hload hqueue]
    exact ⟨fun hfill => congrArg Host.Outcome.next (if_neg (Nat.not_le.2 hfill)),
      fun hfill => congrArg Host.Outcome.next (if_pos hfill)⟩
  · intro k f hslot hload hqueue hrequest hlower
    refine ⟨s.grantFetch k f, ?_, (grantFetch_outcome s k f).1, (grantFetch_outcome s k f).2, ?_, ?_, ?_, ?_, ?_, ?_⟩
    · rw [exec_arbiterGrant hrst hslot, grantNext_fetch hload hqueue (firstFetch_eq_some _ k f hrequest hlower)]
    · rintro rfl hequal
      rw [grantFetch_cue_none (by rw [hequal, cueDistance_self])]
      refine ⟨rfl, rfl, ?_⟩
      rw [getLane_setLane_same]
      exact (withdrawCue_spec _).2
    · rintro rfl hfar
      rw [grantFetch_cue_far hfar]
      by_cases hfetching : (getLane s.lanes k).state = .fetching
      · rw [runLane_of_refused_current rfl (.inr hfetching)]
        refine ⟨rfl, rfl, fun _ => ?_, fun hne => absurd hfetching hne⟩
        rw [getLane_setLane_same]
        rfl
      · by_cases hidle : (getLane s.lanes k).state = .idle
        · rw [runLane_of_refused_current rfl (.inl hidle)]
          exact ⟨rfl, rfl, fun h => absurd h hfetching, fun _ hne => absurd hidle hne⟩
        · rw [runLane_of_refused_next rfl hidle hfetching]
          refine ⟨rfl, rfl, fun h => absurd h hfetching, fun _ _ => ?_⟩
          rw [getLane_setLane_same]
          rfl
    · rintro rfl hlow hhigh
      rw [grantFetch_cue_near hlow hhigh]
      rfl
    · rintro n rfl
      rfl
    · rintro ep rfl
      rfl
    · rintro ep c rfl
      rfl
  · intro k hslot hload hqueue hlanes hrequest hlower
    rw [exec_arbiterGrant hrst hslot, grantNext_taken hload hqueue (firstFetch_eq_none _ hlanes)
      (lowestLane_eq_some _ k hrequest hlower)]
    rfl
  · intro hslot hload hqueue hlanes htaken
    rw [exec_arbiterGrant hrst hslot, grantNext_rest hload hqueue (firstFetch_eq_none _ hlanes)
      (lowestLane_eq_none _ htaken)]
    refine ⟨fun hwritten => congrArg Host.Outcome.next (if_pos hwritten), fun hwritten hscan => ?_,
      fun hwritten hscan => ?_⟩
    · rw [hwritten, hscan]
      rfl
    · rw [hwritten, hscan]
      rfl

/-! #### Completions -/

section
variable {s : State} {tr : Transaction}

theorem completion_own (hrst : s.rstLow = false) (hslot : s.port.slot = some tr) (horphan : tr.orphan = false)
    {kind : BusKind → Bool} {f : Transaction → State → State} (hkind : kind tr.kind = true) :
    whileReleased s (s.onCompletion kind f) = .next (f tr s.freeSlot) :=
  (whileReleased_of_released hrst _).trans
    (congrArg Host.Outcome.next (((State.onCompletion_spec s kind f).2 tr hslot).2.2 hkind horphan))

theorem completion_disowned (hrst : s.rstLow = false) (hslot : s.port.slot = some tr) (horphan : tr.orphan = true)
    {kind : BusKind → Bool} {f : Transaction → State → State} (hkind : kind tr.kind = true) :
    whileReleased s (s.onCompletion kind f) = .next s.freeSlot :=
  (whileReleased_of_released hrst _).trans
    (congrArg Host.Outcome.next (((State.onCompletion_spec s kind f).2 tr hslot).2.1 hkind horphan))

/-- A completion of the transaction in flight does its work on the freed slot: the converse of `effect_of_exec`. -/
theorem exec_of_completed {c : Instr} {t : State} (hrst : s.rstLow = false) (hslot : s.port.slot = some tr)
    (horphan : tr.orphan = false) (h : Completed s.freeSlot tr c t) : exec c s = .next t := by
  cases h with
  | loadHeader hk header =>
    refine (completion_own hrst hslot horphan (by rw [hk]; rfl)).trans ?_
    rw [hk]
    rfl
  | loadReadCount header hk word =>
    refine (completion_own hrst hslot horphan (by rw [hk]; rfl)).trans ?_
    rw [hk]
    rfl
  | load header word hk =>
    refine (completion_own hrst hslot horphan (by rw [hk])).trans ?_
    rw [hk]
  | scan hk words => exact completion_own hrst hslot horphan (by rw [hk])
  | cue k wanted hk word =>
    refine (completion_own hrst hslot horphan (by rw [hk])).trans ?_
    rw [hk]
  | episode k n wanted hk words =>
    refine (completion_own hrst hslot horphan (by rw [hk])).trans ?_
    rw [hk]
  | shapeCount k ep wanted hk word =>
    refine (completion_own hrst hslot horphan (by rw [hk])).trans ?_
    rw [hk]
  | shapeComponents k ep count wanted hk words =>
    refine (completion_own hrst hslot horphan (by rw [hk])).trans ?_
    rw [hk]
  | taken k value hk =>
    refine (completion_own hrst hslot horphan (by rw [hk])).trans ?_
    rw [hk]
  | record dropsTaken hk =>
    refine (completion_own hrst hslot horphan (by rw [hk])).trans ?_
    rw [hk]
  | count hk => exact completion_own hrst hslot horphan (by obtain hk | hk := hk <;> rw [hk])

end

/-- Settles O18. -/
theorem loadReadsIssueTheNextTransaction : Obligations.LoadReadsIssueTheNextTransaction := by
  intro s tr hrst hslot horphan
  exact ⟨fun words hk => exec_of_completed hrst hslot horphan (.loadHeader hk words),
    fun header word hk => exec_of_completed hrst hslot horphan (.loadReadCount header hk word)⟩

/-- Settles O26. -/
theorem completedWritesSettleTheCounts : Obligations.CompletedWritesSettleTheCounts := by
  intro s tr hrst hslot horphan
  refine ⟨fun k value hk => ?_, fun dropsTaken hk => exec_of_completed hrst hslot horphan (.record dropsTaken hk),
    fun hk => exec_of_completed hrst hslot horphan (.count hk)⟩
  rw [exec_of_completed hrst hslot horphan (.taken k value hk), State.takenDone]
  refine ⟨fun hequal => ?_, fun hne => ?_⟩
  · have hsame : getLane s.freeSlot.port.taken k = value := hequal
    simp only [hsame, ne_eq, not_true_eq_false, decide_false, Bool.false_or]
    rfl
  · have hother : getLane s.freeSlot.port.taken k ≠ value := hne
    simp only [hother, ne_eq, not_false_eq_true, decide_true, Bool.true_or]
    rfl

/-- Settles O28. -/
theorem disownedTransactionsOnlyEnd : Obligations.DisownedTransactionsOnlyEnd := by
  intro s tr hrst hslot horphan
  refine ⟨?_, ?_, ?_, ?_, ?_, ?_, ?_, ?_, ?_, ?_, ?_, ?_⟩
  · refine (whileReleased_of_released hrst _).trans (congrArg Host.Outcome.next ?_)
    rw [State.failNow, ((State.fail_spec s).2 tr hslot).1 horphan]
    rfl
  · exact fun hk _ => completion_disowned hrst hslot horphan (by rw [hk]; rfl)
  · exact fun h hk _ => completion_disowned hrst hslot horphan (by rw [hk]; rfl)
  · exact fun h w hk => completion_disowned hrst hslot horphan (by rw [hk])
  · exact fun hk _ => completion_disowned hrst hslot horphan (by rw [hk])
  · exact fun k b hk _ => completion_disowned hrst hslot horphan (by rw [hk])
  · exact fun k n b hk _ => completion_disowned hrst hslot horphan (by rw [hk])
  · exact fun k ep b hk _ => completion_disowned hrst hslot horphan (by rw [hk])
  · exact fun k ep c b hk _ => completion_disowned hrst hslot horphan (by rw [hk])
  · exact fun k v hk => completion_disowned hrst hslot horphan (by rw [hk])
  · exact fun d hk => completion_disowned hrst hslot horphan (by rw [hk])
  · exact fun hk => completion_disowned hrst hslot horphan (by obtain hk | hk := hk <;> rw [hk])

/-! #### The completed load -/

/-- A region offset has its two low bits taken as 0 (R3). -/
theorem regionOffset_eq (n : Nat) (hn : n < 4294967296) : regionOffset n = BitVec.ofNat 32 (n / 4 * 4) := by
  have hround := toNat_and_of_dropsLow (mask := 0xFFFFFFFC#32) (k := 2)
    (fun m hm => (by decide : ∀ i : Fin 32, (0xFFFFFFFC#32).getLsbD i = !decide (i.val < 2)) ⟨m, hm⟩)
    (BitVec.ofNat 32 n)
  refine BitVec.eq_of_toNat_eq (hround.trans ?_)
  rw [BitVec.toNat_ofNat, BitVec.toNat_ofNat, Nat.mod_eq_of_lt hn, Nat.mod_eq_of_lt (by omega)]
  rfl

theorem u32_lt (ws : List Word) (n : Nat) : u32 ws n < 4294967296 := by
  have hlow := u16_le ws n
  have hhigh := u16_le ws (n + 2)
  unfold u32
  omega

theorem clampNat_eq {lo hi : Nat} (h : lo ≤ hi) (n : Nat) : clampNat lo hi n = max lo (min hi n) := by
  unfold clampNat
  split
  · omega
  · split <;> omega

/-- Settles O19. -/
theorem loadCompletionLatchesTheSettings : Obligations.LoadCompletionLatchesTheSettings := by
  intro s tr header readCount hrst hslot horphan hk
  have hport : ((s.freeSlot.port.latch header.toList readCount).requestScan) = { s.port with
      slot := none, readCount := readCount, written := readCount, jbad := false, writtenOwed := false
      writtenRequest := false, scanRequest := true
      episodeOffset := BitVec.ofNat 32 (u32 header.toList 0 / 4 * 4)
      episodeCount := min (u16 header.toList 4) 4096
      shapeCount := min (u16 header.toList 6) 256
      shapeOffset := BitVec.ofNat 32 (u32 header.toList 8 / 4 * 4)
      cueOffset := BitVec.ofNat 32 (u32 header.toList 12 / 4 * 4)
      journalOffset := BitVec.ofNat 32 (u32 header.toList 16 / 4 * 4) } := by
    simp only [← regionOffset_eq _ (u32_lt _ _)]
    rfl
  refine ⟨_, exec_of_completed hrst hslot horphan (.load header readCount hk), rfl, fun hready => ?_, fun hready => ?_,
    hport, ?_, ?_, rfl, ?_, rfl, rfl, rfl, rfl, rfl, rfl, rfl, rfl, rfl⟩
  · have hfree : s.freeSlot.link.ready = true := hready
    simp only [State.loadDone, hfree]
    exact ⟨rfl, rfl⟩
  · have hfree : s.freeSlot.link.ready = false := hready
    simp only [State.loadDone, hfree]
    exact ⟨rfl, rfl⟩
  · rw [← clampNat_eq (by decide)]
    rfl
  · intro x n hx
    simp only [List.mem_cons, Prod.mk.injEq, List.not_mem_nil, or_false] at hx
    obtain ⟨rfl, rfl⟩ | ⟨rfl, rfl⟩ | ⟨rfl, rfl⟩ := hx <;> rfl
  · intro x n hx
    simp only [List.mem_cons, Prod.mk.injEq, List.not_mem_nil, or_false] at hx
    obtain ⟨rfl, rfl⟩ | ⟨rfl, rfl⟩ | ⟨rfl, rfl⟩ := hx <;> rfl

/-! #### Failures -/

/-- A failure that is taken at an event which is no sample event: its records join the queue (R165). -/
def Failure.taken (f : Failure) : State :=
  { f.state with
    journal := (if f.dropsHead then f.state.journal.dropHead else f.state.journal).postAll f.records }

theorem exec_busErrorResponse {s : State} {tr : Transaction} (hrst : s.rstLow = false) (hslot : s.port.slot = some tr)
    (horphan : tr.orphan = false) :
    exec .busErrorResponse s = .next ((s.freeSlot.setFlag .bus).failed tr.kind).taken := by
  rw [← ((State.fail_spec s).2 tr hslot).2 horphan]
  exact whileReleased_of_released hrst _

/-- The offending index of a fetch that ends with BUS (R9, R11). -/
def Fetch.offending (taken : Word) : Fetch → Half
  | .cue => halfIndex (cueSlot taken)
  | .episode i => halfIndex i
  | .shapeCount ep => halfIndex ep.setIndex
  | .shapeComponents ep _ => halfIndex ep.setIndex

/-- The episode index of a fetch that ends with BUS (R164). -/
def Fetch.named : Fetch → Half
  | .cue => noEpisode
  | .episode i => halfIndex i
  | .shapeCount ep => halfIndex ep.index
  | .shapeComponents ep _ => halfIndex ep.index

/-- A wanted fetch that fails is refused with BUS (R9, R11). -/
theorem fetchFailed_wanted (s : State) (k : LaneId) (f : Fetch) :
    s.fetchFailed k f true =
      { state := { s with
          lanes := setLane s.lanes k (refuse (s.laneEnv k) .bus (f.offending (getLane s.port.taken k)) f.named
            (getLane s.lanes k)).lane
          window := s.window.setFlag .plan }
        records := (refuse (s.laneEnv k) .bus (f.offending (getLane s.port.taken k)) f.named
          (getLane s.lanes k)).records } := by
  have hplan : ∀ offending index, s.window.setFlagIf (refuse (s.laneEnv k) .bus offending index
      (getLane s.lanes k)).plan .plan = s.window.setFlag .plan := fun offending index => by
    rw [(refuse_spec _ _ _ _ _).1]
    rfl
  cases f <;> simp only [State.fetchFailed, if_true, hplan] <;> rfl

theorem setIndex_of_shape {ep : Episode} {j : Nat} (h : ep.kind = .shape j) : ep.setIndex = j := by
  unfold Episode.setIndex
  rw [h]

/-- What a fetch names, where its indices fit their fields. -/
theorem Fetch.names {f : Fetch} {taken : Word} {index offending : Half}
    (h : f = .cue ∧ index = 0xFFFF ∧ offending = BitVec.ofNat 16 (taken.toNat % 16) ∨
      (∃ n, f = .episode n ∧ n < 65536 ∧ index = BitVec.ofNat 16 n ∧ offending = BitVec.ofNat 16 n) ∨
      (∃ ep j, (f = .shapeCount ep ∨ ∃ c, f = .shapeComponents ep c) ∧ ep.kind = .shape j ∧ j < 65536 ∧
        ep.index < 65536 ∧ index = BitVec.ofNat 16 ep.index ∧ offending = BitVec.ofNat 16 j)) :
    f.named = index ∧ f.offending taken = offending := by
  obtain ⟨rfl, rfl, rfl⟩ | ⟨n, rfl, hn, rfl, rfl⟩ | ⟨ep, j, hf, hkind, hj, hep, rfl, rfl⟩ := h
  · exact ⟨rfl, halfIndex_cueSlot taken⟩
  · exact ⟨halfIndex_of_lt hn, halfIndex_of_lt hn⟩
  · have hset := halfIndex_of_lt hj
    rw [← setIndex_of_shape hkind] at hset ⊢
    obtain rfl | ⟨c, rfl⟩ := hf
    · exact ⟨halfIndex_of_lt hep, hset⟩
    · exact ⟨halfIndex_of_lt hep, hset⟩

/-- Settles O27: a row for each requester of the table of bus endings. -/
theorem busErrorEndsTheTransaction : Obligations.BusErrorEndsTheTransaction := by
  constructor
  · intro s hslot
    have hnow : s.failNow = s := by rw [State.failNow, (State.fail_spec s).1 hslot]; rfl
    have hexec : exec .busErrorResponse s = whileReleased s s.failNow := rfl
    rw [hexec, hnow]
    unfold whileReleased
    split <;> rfl
  intro s tr hrst hslot horphan
  rw [exec_busErrorResponse hrst hslot horphan]
  refine ⟨?_, ?_, ?_, ?_, ?_, ?_, ?_⟩
  · rintro (hk | ⟨h, hk⟩ | ⟨h, w, hk⟩)
    all_goals
      rw [hk]
      rfl
  · intro hk
    rw [hk]
    rfl
  · intro d hk
    rw [hk]
    rfl
  · rintro (hk | hk)
    all_goals
      rw [hk]
      rfl
  · intro k value hk
    rw [hk]
    rfl
  · intro k f hk
    rw [hk]
    rfl
  · intro k f hk
    have hfailed := fetchFailed_wanted (s.freeSlot.setFlag .bus) k f
    obtain ⟨-, -, hcurrent, hnext⟩ := refuse_spec ((s.freeSlot.setFlag .bus).laneEnv k) .bus
      (f.offending (getLane s.port.taken k)) f.named (getLane s.lanes k)
    rw [hk]
    refine ⟨(State.fetchFailed _ k f true).taken, rfl, ?_, ?_, ?_, fun index offending hnames => ⟨?_, ?_⟩⟩
    · rw [hfailed]
      rfl
    · rw [hfailed]
      exact fun j hj => getLane_setLane_of_ne _ hj _
    · intro hstate
      rw [hfailed, Failure.taken, getLane_setLane_same]
      exact (hcurrent (.inr hstate)).1 ▸ ⟨rfl, rfl⟩
    · intro hstate
      obtain ⟨hnamed, hoffending⟩ := Fetch.names hnames
      rw [hfailed]
      refine (congrArg s.journal.postAll (hcurrent (.inr hstate)).2).trans ?_
      rw [hnamed, hoffending]
      rfl
    · intro hstate
      obtain ⟨hnamed, hoffending⟩ := Fetch.names hnames
      obtain ⟨hlane, hrecords⟩ := hnext (by obtain h | h | h := hstate <;> rw [h] <;> nofun)
        (by obtain h | h | h := hstate <;> rw [h] <;> nofun)
      rw [hfailed]
      refine ⟨(getLane_setLane_same _ _ _).trans (hlane.trans ?_), (congrArg s.journal.postAll hrecords).trans ?_⟩
      · rw [hnamed]
      · rw [hnamed, hoffending]
        rfl

end Sys2Proof.Machine
end

section
/-! ### The completions of a lane's reads (R8 to R11, R38 to R43, R46, R47) -/

namespace Sys2Proof.Machine

/-! #### Posting to a queue and to a state -/

/-- A lane's work posts each of its records (R165, R167). -/
theorem posted_runLane {s s' : State} (hjournal : s'.journal = s.journal) (k : LaneId) (f : LaneEnv → Lane → LaneOut) :
    ∀ r ∈ (f (s'.laneEnv k) (getLane s'.lanes k)).records, posted s (s'.runLane k f) r = true := by
  intro r hr
  rw [posted_iff, ← hjournal]
  exact postAll_journalHolds _ _ r hr

/-! #### Filling the next slot -/

/-- How lane work leaves the next slot of a lane whose episode ep has become current: filled by its NEXT, or by the cue
test, which a stop pending bars (R7, R46, R47, R66). -/
structure FillsNext (e : LaneEnv) (stop : Bool) (ep : Episode) (o : LaneOut) : Prop where
  next : ∀ n, ep.next = some n → o.lane.next = .fetching ∧ o.lane.request = some (.episode n)
  empty : ep.next = none → e.engine.cueOpen = false ∨ cueDistance e.posted e.taken = 0 →
    o.lane.next = .empty ∧ o.lane.request = none
  cue : ep.next = none → e.engine.cueOpen = true → 1 ≤ cueDistance e.posted e.taken →
    cueDistance e.posted e.taken ≤ 16 → stop = false → o.lane.next = .fetching ∧ o.lane.request = some .cue
  refused : ep.next = none → e.engine.cueOpen = true → 17 ≤ cueDistance e.posted e.taken →
    o.lane.next = .refused .cueCount noEpisode ∧ o.plan = true ∧
      e.record noEpisode (.planRefused .cueCount (halfIndex (cueSlot e.taken))) ∈ o.records

theorem awaiting_needsEpisode {ep : Episode} (h : ep.next = none) (l : Lane) (late : Bool) :
    (l.awaiting ep late).needsEpisode = true := by
  simp [Lane.needsEpisode, Lane.awaiting, h]

theorem becomeCurrent_of_next {ep : Episode} {n : Nat} (h : ep.next = some n) (e : LaneEnv) (late : Bool) (l : Lane) :
    becomeCurrent e late ep l =
      { lane := { l.awaiting ep late with next := .fetching, request := some (.episode n) } } := by
  rw [becomeCurrent_eq, h]

theorem becomeCurrent_of_no_next {ep : Episode} (h : ep.next = none) (e : LaneEnv) (late : Bool) (l : Lane) :
    becomeCurrent e late ep l = cueTest e (l.awaiting ep late) := by
  rw [becomeCurrent_eq, h]

/-- The cue test of a lane whose episode has just become current, by its outcomes (R7, R47). -/
theorem cueTest_awaiting {e : LaneEnv} {ep : Episode} (h : ep.next = none) (l : Lane) (late : Bool) :
    (e.engine.cueOpen = false ∨ cueDistance e.posted e.taken = 0 →
        cueTest e (l.awaiting ep late) = { lane := l.awaiting ep late }) ∧
      (e.engine.cueOpen = true → 1 ≤ cueDistance e.posted e.taken → cueDistance e.posted e.taken ≤ 16 →
        cueTest e (l.awaiting ep late) = { lane := (l.awaiting ep late).requestCue }) ∧
      (e.engine.cueOpen = true → 17 ≤ cueDistance e.posted e.taken →
        cueTest e (l.awaiting ep late) =
          { lane := { l.awaiting ep late with next := .refused .cueCount noEpisode, request := none }
            records := [e.record noEpisode (.planRefused .cueCount (halfIndex (cueSlot e.taken)))]
            plan := true }) := by
  have hneeds := awaiting_needsEpisode h l late
  refine ⟨fun hnone => ?_, fun hopen => (cueTest_of_needs hopen hneeds).2.1, fun hopen hfar => ?_⟩
  · by_cases hopen : e.engine.cueOpen = true
    · obtain hclosed | hzero := hnone
      · rw [hclosed] at hopen; cases hopen
      · exact (cueTest_of_needs hopen hneeds).1 hzero
    · exact cueTest_of_closed _ (Bool.eq_false_iff.2 hopen)
  · rw [(cueTest_of_needs hopen hneeds).2.2 hfar]
    rfl

theorem requestCue_awaiting {l : Lane} (hstop : l.pendingStop = false) (ep : Episode) (late : Bool) :
    (l.awaiting ep late).requestCue = { l.awaiting ep late with next := .fetching, request := some .cue } :=
  (Lane.requestCue_spec (l.awaiting ep late)).2.2 hstop nofun

theorem becomeCurrent_fills (e : LaneEnv) (late : Bool) (ep : Episode) (l : Lane) :
    FillsNext e l.pendingStop ep (becomeCurrent e late ep l) where
  next n hn := by
    rw [becomeCurrent_of_next hn]
    exact ⟨rfl, rfl⟩
  empty hn hnone := by
    rw [becomeCurrent_of_no_next hn, (cueTest_awaiting hn l late).1 hnone]
    exact ⟨rfl, rfl⟩
  cue hn hopen hlow hhigh hstop := by
    rw [becomeCurrent_of_no_next hn, (cueTest_awaiting hn l late).2.1 hopen hlow hhigh, requestCue_awaiting hstop]
    exact ⟨rfl, rfl⟩
  refused hn hopen hfar := by
    rw [becomeCurrent_of_no_next hn, (cueTest_awaiting hn l late).2.2 hopen hfar]
    exact ⟨rfl, rfl, List.mem_singleton_self _⟩

/-- Besides its next slot and its request, a lane whose episode becomes current stands as it awaits its first
application (R46). -/
theorem becomeCurrent_lane (e : LaneEnv) (late : Bool) (ep : Episode) (l : Lane) :
    ∃ next request, (becomeCurrent e late ep l).lane = { l.awaiting ep late with next := next, request := request } := by
  cases hn : ep.next with
  | some n => exact ⟨_, _, by rw [becomeCurrent_of_next hn]⟩
  | none =>
    rw [becomeCurrent_of_no_next hn]
    obtain ⟨hnone, hnear, hfar⟩ := cueTest_awaiting (e := e) hn l late
    by_cases hopen : e.engine.cueOpen = true
    · by_cases hzero : cueDistance e.posted e.taken = 0
      · exact ⟨_, _, by rw [hnone (.inr hzero)]⟩
      · by_cases hhigh : cueDistance e.posted e.taken ≤ 16
        · rw [hnear hopen (by omega) hhigh]
          cases hstop : l.pendingStop with
          | true => exact ⟨_, _, (Lane.requestCue_spec (l.awaiting ep late)).1 hstop⟩
          | false => exact ⟨_, _, requestCue_awaiting hstop ep late⟩
        · exact ⟨_, _, by rw [hfar hopen (by omega)]⟩
    · exact ⟨_, _, by rw [hnone (.inl (Bool.eq_false_iff.2 hopen))]⟩

/-- Lane work that fills the next slot does so from one state to another that takes the lane, the flag and the records
from it. -/
theorem FillsNext.fillsNextIn {s t : State} {k : LaneId} {e : LaneEnv} {ep : Episode} {o : LaneOut}
    (h : FillsNext e (getLane s.lanes k).pendingStop ep o) (hposted : e.posted = getLane s.port.posted k)
    (htaken : e.taken = getLane s.port.taken k) (hnext : (getLane t.lanes k).next = o.lane.next)
    (hrequest : (getLane t.lanes k).request = o.lane.request)
    (hplan : o.plan = true → t.window.has .plan = true) (hrecords : ∀ r ∈ o.records, posted s t r = true)
    (hrecord : ∀ index body, e.record index body = t.record (some k) index body) :
    s.fillsNextIn t e.engine k ep := by
  have hahead : cueDistance e.posted e.taken = s.cueAhead k := by rw [hposted, htaken]; rfl
  have hempty := h.empty
  have hcue := h.cue
  have hrefused := h.refused
  rw [hahead] at hempty hcue hrefused
  rw [State.fillsNextIn]
  simp only [hnext, hrequest]
  refine ⟨h.next, fun hn => ⟨hempty hn, hcue hn, fun hopen hfar => ?_⟩⟩
  obtain ⟨hslot, hflag, hmem⟩ := hrefused hn hopen hfar
  refine ⟨hslot, hplan hflag, ?_⟩
  have hpost := hrecords _ hmem
  rwa [hrecord, htaken, halfIndex_cueSlot] at hpost

theorem runLane_plan {s : State} {k : LaneId} {f : LaneEnv → Lane → LaneOut}
    (h : (f (s.laneEnv k) (getLane s.lanes k)).plan = true) : (s.runLane k f).window.has .plan = true := by
  rw [State.runLane, State.withLane, h, Window.setFlagIf_true, setFlag_has, Bool.or_eq_true]
  exact .inr (by decide)

theorem runLane_lane (s : State) (k : LaneId) (f : LaneEnv → Lane → LaneOut) :
    getLane (s.runLane k f).lanes k = (f (s.laneEnv k) (getLane s.lanes k)).lane := getLane_setLane_same _ _ _

/-! #### Loading an episode -/

theorem completeEpisode_of_fetching {l : Lane} (h : l.state = .fetching) (e : LaneEnv) (ep : Episode) :
    completeEpisode e ep l = becomeCurrent e l.late ep l := if_pos h

theorem completeEpisode_of_holding {l : Lane} (h : l.state ≠ .fetching) (e : LaneEnv) (ep : Episode) :
    completeEpisode e ep l = { lane := { l with next := .loaded ep, request := none } } := if_neg h

/-- The state once a loaded episode has gone to the slot that was being filled. -/
def State.episodeLoaded (s : State) (k : LaneId) (ep : Episode) : State := s.runLane k fun e l => completeEpisode e ep l

section
variable {s : State} {k : LaneId}

/-- A loaded episode that fills the current slot becomes current (R46). -/
theorem episodeLoaded_current (hstate : (getLane s.lanes k).state = .fetching) (ep : Episode) :
    let m := getLane (s.freeSlot.episodeLoaded k ep).lanes k
    m.state = .waiting ∧ m.current = some ep ∧ m.application = 0 ∧ m.evaluationMark = false ∧
      m.late = (getLane s.lanes k).late ∧
      s.fillsNextIn (s.freeSlot.episodeLoaded k ep) s.control.engine k ep := by
  have hcomplete := completeEpisode_of_fetching hstate (s.freeSlot.laneEnv k) ep
  obtain ⟨next, request, hlane⟩ := becomeCurrent_lane (s.freeSlot.laneEnv k) (getLane s.lanes k).late ep
    (getLane s.lanes k)
  have hfills := becomeCurrent_fills (s.freeSlot.laneEnv k) (getLane s.lanes k).late ep (getLane s.lanes k)
  rw [← hcomplete] at hlane hfills
  have hm : getLane (s.freeSlot.episodeLoaded k ep).lanes k = _ := (runLane_lane _ _ _).trans hlane
  dsimp only
  rw [hm]
  refine ⟨rfl, rfl, rfl, rfl, rfl, ?_⟩
  exact hfills.fillsNextIn rfl rfl (congrArg Lane.next (runLane_lane _ _ _)) (congrArg Lane.request (runLane_lane _ _ _))
    (runLane_plan (s := s.freeSlot) (f := fun e l => completeEpisode e ep l))
    (posted_runLane (s' := s.freeSlot) rfl k fun e l => completeEpisode e ep l) (fun _ _ => rfl)

/-- A loaded episode that fills the next slot waits there (R47). -/
theorem episodeLoaded_next (hstate : (getLane s.lanes k).state ≠ .fetching) (ep : Episode) :
    s.episodeLoaded k ep =
      { s with lanes := setLane s.lanes k { getLane s.lanes k with next := .loaded ep, request := none } } :=
  runLane_of_quiet (completeEpisode_of_holding hstate _ _)

/-- A refusal of a read for the current slot or for the next (R40). -/
theorem runLane_refuse (cause : Refused) (offending index : Half) :
    let t := s.runLane k fun e l => refuse e cause offending index l
    t = { s with lanes := t.lanes, journal := t.journal, window := s.window.setFlag .plan } ∧
      (∀ j, j ≠ k → getLane t.lanes j = getLane s.lanes j) ∧
      ((getLane s.lanes k).state = .fetching →
        getLane t.lanes k = (getLane s.lanes k).halted ∧
          t.journal = (s.journal.post (s.record (some k) index (.planRefused cause offending))).post
            (s.record (some k) index (.laneHalted cause))) ∧
      ((getLane s.lanes k).state ≠ .fetching → (getLane s.lanes k).state ≠ .idle →
        getLane t.lanes k = { getLane s.lanes k with next := .refused cause index, request := none } ∧
          t.journal = s.journal.post (s.record (some k) index (.planRefused cause offending))) := by
  refine ⟨?_, fun j hj => runLane_lanes_of_ne _ _ hj, fun hstate => ?_, fun hfetching hidle => ?_⟩
  · rw [State.runLane, State.withLane, (refuse_spec _ _ _ _ _).1]
    rfl
  · rw [runLane_of_refused_current rfl (.inr hstate)]
    exact ⟨getLane_setLane_same _ _ _, rfl⟩
  · rw [runLane_of_refused_next rfl hidle hfetching]
    exact ⟨getLane_setLane_same _ _ _, rfl⟩

end

/-! #### The cue entry -/

theorem toNat_byte (w : Word) (n : Nat) : (w.extractLsb' (8 * n) 8).toNat = w.toNat / 256 ^ n % 256 := by
  rw [BitVec.extractLsb'_toNat, Nat.shiftRight_eq_div_pow, Nat.pow_mul]

/-- The index of a cue entry is the low half of its word (R8). -/
theorem u16_singleton (word : Word) : u16 [word] 0 = word.toNat % 65536 := by
  have hlow : u8 [word] 0 = word.toNat / 256 ^ 0 % 256 := toNat_byte word 0
  have hhigh : u8 [word] 1 = word.toNat / 256 ^ 1 % 256 := toNat_byte word 1
  rw [u16, hlow, hhigh]
  omega

theorem u8_singleton (word : Word) : u8 [word] 0 = word.toNat % 256 := by
  have hlow : u8 [word] 0 = word.toNat / 256 ^ 0 % 256 := toNat_byte word 0
  rw [hlow]
  omega

theorem halfIndex_cueIndex (word : Word) : halfIndex (u16 [word] 0) = word.extractLsb' 0 16 := by
  rw [u16_singleton, halfIndex_of_lt (Nat.mod_lt _ (by decide))]
  refine BitVec.eq_of_toNat_eq ?_
  rw [BitVec.toNat_ofNat, BitVec.extractLsb'_toNat]
  omega

/-- A cue test never asks for a record (R7). -/
theorem cueTest_request {e : LaneEnv} {l : Lane} {n : Nat} (h : (cueTest e l).lane.request = some (.episode n)) :
    l.request = some (.episode n) := by
  obtain ⟨hoff, hon⟩ := cueTest_spec e l
  cases hopen : e.engine.cueOpen && l.needsEpisode with
  | false => rwa [hoff hopen] at h
  | true =>
    obtain ⟨hzero, hnear, hfar⟩ := hon hopen
    by_cases h0 : cueDistance e.posted e.taken = 0
    · rwa [hzero h0] at h
    · by_cases h16 : cueDistance e.posted e.taken ≤ 16
      · rw [hnear (by omega) h16] at h
        obtain ⟨hstop, hidle, hother⟩ := Lane.requestCue_spec l
        cases hp : l.pendingStop with
        | true => rwa [hstop hp] at h
        | false =>
          by_cases hs : l.state = .idle
          · rw [hidle hp hs] at h; cases h
          · rw [hother hp hs] at h; cases h
      · rw [hfar (by omega), refuse] at h
        split at h <;> cases h

theorem cueDone_inRange {s : State} {k : LaneId} {word : Word} (h : word.toNat % 65536 < s.port.episodeCount) :
    s.cueDone k true word = { s with port := s.port.consumed k }.runLane k fun _ l =>
      { lane := { l with request := some (.episode (word.toNat % 65536)) } } := by
  rw [← u16_singleton] at h ⊢
  unfold State.cueDone
  dsimp only
  rw [if_pos rfl, if_pos h]
  rfl

theorem cueDone_outOfRange {s : State} {k : LaneId} {word : Word} (h : s.port.episodeCount ≤ word.toNat % 65536) :
    s.cueDone k true word = { s with port := s.port.consumed k }.runLane k fun e l =>
      refuse e .indexRange (word.extractLsb' 0 16) noEpisode l := by
  rw [← u16_singleton] at h
  rw [← halfIndex_cueIndex]
  unfold State.cueDone
  dsimp only
  rw [if_pos rfl, if_neg (Nat.not_lt.2 h)]
  rfl

/-- Settles O21. -/
theorem cueFetchChecksTheIndex : Obligations.CueFetchChecksTheIndex := by
  intro s tr k wanted word hrst hslot horphan hk
  refine ⟨_, exec_of_completed hrst hslot horphan (.cue k wanted hk word), ?_⟩
  cases wanted with
  | false =>
    rw [cueDone_unwanted]
    refine ⟨rfl, rfl, fun j hj => runLane_lanes_of_ne _ _ hj, nofun, nofun, fun _ n hn => ?_⟩
    rw [runLane_lane] at hn
    exact cueTest_request hn
  | true =>
    by_cases hindex : word.toNat % 65536 < s.port.episodeCount
    · rw [cueDone_inRange (s := s.freeSlot) hindex]
      refine ⟨rfl, rfl, fun j hj => runLane_lanes_of_ne _ _ hj, fun _ _ => ⟨runLane_lane _ _ _, rfl, rfl⟩,
        fun _ hge => absurd hindex (by omega), nofun⟩
    · rw [cueDone_outOfRange (s := s.freeSlot) (Nat.not_lt.1 hindex)]
      obtain ⟨hstate, hothers, hcurrent, hnext⟩ := runLane_refuse
        (s := { s.freeSlot with port := s.freeSlot.port.consumed k }) (k := k) .indexRange (word.extractLsb' 0 16) noEpisode
      refine ⟨rfl, rfl, hothers, fun _ hlt => absurd hlt hindex,
        fun _ _ => ⟨congrArg State.window hstate, fun hstate => ?_, hnext⟩, nofun⟩
      obtain ⟨hlane, hjournal⟩ := hcurrent hstate
      exact ⟨congrArg Lane.state hlane, congrArg Lane.request hlane, hjournal⟩

/-! #### The episode record -/

section
variable {s : State} {k : LaneId} {n : Nat} {words : List Word}

theorem episodeDone_refused {cause : Refused} {offending : Half}
    (h : validateRecord s.control.mode s.port.episodeCount s.port.shapeCount n words = .error (cause, offending)) :
    s.episodeDone k true n words = s.runLane k fun e l => refuse e cause offending (halfIndex n) l := by
  rw [State.episodeDone, if_pos rfl, h]

theorem episodeDone_shape {ep : Episode} {j : Nat} (hkind : ep.kind = .shape j)
    (h : validateRecord s.control.mode s.port.episodeCount s.port.shapeCount n words = .ok ep) :
    s.episodeDone k true n words =
      { s with lanes := setLane s.lanes k { getLane s.lanes k with request := some (.shapeCount ep) } } := by
  rw [State.episodeDone, if_pos rfl, h]
  simp only [hkind]
  exact runLane_of_quiet rfl

theorem episodeDone_loaded {ep : Episode} (hkind : ∀ j, ep.kind ≠ .shape j)
    (h : validateRecord s.control.mode s.port.episodeCount s.port.shapeCount n words = .ok ep) :
    s.episodeDone k true n words = s.episodeLoaded k ep := by
  rw [State.episodeDone, if_pos rfl, h]
  dsimp only
  split
  · exact absurd ‹_› (hkind _)
  · rfl

end

/-- Settles O22: the outcome of the tests, then the slot that was being filled. -/
theorem episodeFetchLoadsOrRefuses : Obligations.EpisodeFetchLoadsOrRefuses := by
  intro s tr k n wanted words hrst hslot horphan hk hn
  have hexec := exec_of_completed hrst hslot horphan (.episode k n wanted hk words)
  refine ⟨?_, ?_⟩
  · rintro rfl
    exact hexec
  rintro rfl
  refine ⟨_, hexec, ?_⟩
  cases hvalid : validateRecord s.control.mode s.port.episodeCount s.port.shapeCount n words.toList with
  | error refusal =>
    obtain ⟨cause, offending⟩ := refusal
    rw [episodeDone_refused (s := s.freeSlot) hvalid, halfIndex_of_lt hn]
    obtain ⟨hstate, hothers, hcurrent, hnext⟩ := runLane_refuse (s := s.freeSlot) (k := k) cause offending
      (BitVec.ofNat 16 n)
    refine ⟨rfl, hothers, ?_, ?_⟩
    swap
    · rintro _ ⟨⟩
    rintro _ _ ⟨⟩
    exact ⟨congrArg State.window hstate, fun hstate => ⟨congrArg Lane.state (hcurrent hstate).1, (hcurrent hstate).2⟩, hnext⟩
  | ok ep =>
    by_cases hshape : ∃ j, ep.kind = .shape j
    · obtain ⟨j, hkind⟩ := hshape
      rw [episodeDone_shape (s := s.freeSlot) hkind hvalid]
      refine ⟨rfl, fun j' hj => getLane_setLane_of_ne _ hj _, ?_, ?_⟩
      · rintro _ _ ⟨⟩
      rintro _ ⟨⟩
      exact ⟨fun hother => absurd hkind (hother j), fun hother => absurd hkind (hother j),
        fun _ _ => ⟨getLane_setLane_same _ _ _, rfl, rfl⟩⟩
    · rw [not_exists] at hshape
      rw [episodeDone_loaded (s := s.freeSlot) hshape hvalid]
      refine ⟨rfl, fun j' hj => runLane_lanes_of_ne _ _ hj, ?_, ?_⟩
      · rintro _ _ ⟨⟩
      rintro _ ⟨⟩
      refine ⟨fun _ hstate => episodeLoaded_current hstate ep, fun _ hstate => ?_, fun j hj => absurd hj (hshape j)⟩
      rw [episodeLoaded_next (s := s.freeSlot) hstate]
      exact ⟨getLane_setLane_same _ _ _, rfl, rfl⟩

/-! #### The shape set -/

theorem clampComponent_eq_self_iff (c : Component) : clampComponent c = c ↔ c.amplitude ≤ 3000 ∧ c.phase < 3600 := by
  obtain ⟨order, amplitude, phase⟩ := c
  simp only [clampComponent, Component.mk.injEq, true_and]
  omega

/-- Components whose orders all lie in range are loaded with their values brought into range, and the set is marked
where one was changed (R43). -/
theorem loadComponents_inRange {ws : List Word} {count : Nat}
    (h : ∀ m, m < count → 2 ≤ u16 ws (6 * m) ∧ u16 ws (6 * m) ≤ 40) :
    ∃ clamped, loadComponents ws count =
        some ((List.range count).map fun m => clampComponent (componentAt ws m), clamped) ∧
      (clamped = true ↔ ∃ m, m < count ∧ (3000 < u16 ws (6 * m + 2) ∨ 3600 ≤ u16 ws (6 * m + 4))) := by
  have hall : ((List.range count).map (componentAt ws)).all
      (fun c => decide (2 ≤ c.order) && decide (c.order ≤ 40)) = true := by
    rw [List.all_eq_true]
    intro c hc
    obtain ⟨m, hm, rfl⟩ := List.mem_map.1 hc
    rw [Bool.and_eq_true, decide_eq_true_eq, decide_eq_true_eq]
    exact h m (List.mem_range.1 hm)
  refine ⟨_, by rw [loadComponents, if_pos hall, List.map_map]; rfl, ?_⟩
  rw [bne_iff_ne, ne_eq, ← not_iff_not, not_not]
  calc (List.range count).map (fun m => clampComponent (componentAt ws m)) = (List.range count).map (componentAt ws)
      ↔ ∀ m ∈ List.range count, clampComponent (componentAt ws m) = componentAt ws m := List.map_inj_left
    _ ↔ _ := by
      simp only [clampComponent_eq_self_iff, List.mem_range, componentAt, not_exists, not_and, not_or, Nat.not_lt,
        Nat.not_le]

theorem loadComponents_outOfRange {ws : List Word} {count m : Nat} (hm : m < count)
    (h : u16 ws (6 * m) < 2 ∨ 40 < u16 ws (6 * m)) : loadComponents ws count = none := by
  refine if_neg fun hall => ?_
  have hone := List.all_eq_true.1 hall (componentAt ws m) (List.mem_map_of_mem (List.mem_range.2 hm))
  rw [Bool.and_eq_true, decide_eq_true_eq, decide_eq_true_eq] at hone
  obtain ⟨hlow, hhigh⟩ : 2 ≤ u16 ws (6 * m) ∧ u16 ws (6 * m) ≤ 40 := hone
  omega

section
variable {s : State} {k : LaneId} {ep : Episode}

theorem shapeCountDone_inRange {word : Word} (hlow : 1 ≤ word.toNat % 256) (hhigh : word.toNat % 256 ≤ 12) :
    s.shapeCountDone k true ep word = { s with
      lanes := setLane s.lanes k { getLane s.lanes k with request := some (.shapeComponents ep (word.toNat % 256)) } } := by
  rw [← u8_singleton] at hlow hhigh ⊢
  rw [State.shapeCountDone, if_pos rfl]
  dsimp only
  rw [if_pos ⟨hlow, hhigh⟩]
  exact runLane_of_quiet rfl

theorem shapeCountDone_outOfRange {word : Word} (h : word.toNat % 256 = 0 ∨ 13 ≤ word.toNat % 256) :
    s.shapeCountDone k true ep word =
      s.runLane k fun e l => refuse e .badShape (halfIndex ep.setIndex) (halfIndex ep.index) l := by
  rw [← u8_singleton] at h
  rw [State.shapeCountDone, if_pos rfl]
  dsimp only
  rw [if_neg (by omega)]

theorem shapeComponentsDone_loaded {count : Nat} {words : List Word} {components : List Component} {clamped : Bool}
    (h : loadComponents words count = some (components, clamped)) :
    s.shapeComponentsDone k true ep count words =
      s.episodeLoaded k { ep with components := components, clamped := ep.clamped || clamped } := by
  rw [State.shapeComponentsDone, if_pos rfl, h]
  rfl

theorem shapeComponentsDone_refused {count : Nat} {words : List Word} (h : loadComponents words count = none) :
    s.shapeComponentsDone k true ep count words =
      s.runLane k fun e l => refuse e .badShape (halfIndex ep.setIndex) (halfIndex ep.index) l := by
  rw [State.shapeComponentsDone, if_pos rfl, h]

end

/-- Settles O25: the two reads share their refusal, and the second loads the episode as the record's read does. -/
theorem shapeReadsLoadOrRefuse : Obligations.ShapeReadsLoadOrRefuse := by
  intro s tr k ep j hrst hslot horphan hkind hj hindex
  have hset : halfIndex ep.setIndex = BitVec.ofNat 16 j := by rw [setIndex_of_shape hkind, halfIndex_of_lt hj]
  intro discarded index refusal refusedAt
  have hrefusedAt : refusedAt
      (s.freeSlot.runLane k fun e l => refuse e .badShape (halfIndex ep.setIndex) (halfIndex ep.index) l) := by
    rw [hset, halfIndex_of_lt hindex]
    obtain ⟨hstate, hothers, hcurrent, hnext⟩ := runLane_refuse (s := s.freeSlot) (k := k) .badShape
      (BitVec.ofNat 16 j) (BitVec.ofNat 16 ep.index)
    refine ⟨hstate, hothers, fun hfetching => ?_, hnext⟩
    obtain ⟨hlane, hjournal⟩ := hcurrent hfetching
    exact ⟨congrArg Lane.state hlane, congrArg Lane.request hlane, hjournal⟩
  constructor
  · intro word
    refine ⟨fun hk => ?_, fun hk => ⟨fun hlow hhigh => ?_, fun hbad => ⟨_, ?_, hrefusedAt⟩⟩⟩
    · rw [exec_of_completed hrst hslot horphan (.shapeCount k ep false hk word), shapeCountDone_unwanted]
      rfl
    · rw [exec_of_completed hrst hslot horphan (.shapeCount k ep true hk word), shapeCountDone_inRange hlow hhigh]
      rfl
    · rw [exec_of_completed hrst hslot horphan (.shapeCount k ep true hk word), shapeCountDone_outOfRange hbad]
  · intro words count _
    refine ⟨fun hk => ?_, fun hk => ⟨fun horders => ?_, ?_⟩⟩
    · rw [exec_of_completed hrst hslot horphan (.shapeComponents k ep count false hk words),
        shapeComponentsDone_unwanted]
      rfl
    · obtain ⟨clamped, hload, hclamped⟩ := loadComponents_inRange horders
      refine ⟨_, { ep with
          components := (List.range count).map fun m => clampComponent (componentAt words.toList m)
          clamped := ep.clamped || clamped },
        (exec_of_completed hrst hslot horphan (.shapeComponents k ep count true hk words)).trans
          (congrArg Host.Outcome.next (shapeComponentsDone_loaded hload)), fun j' hj' => runLane_lanes_of_ne _ _ hj',
        fun hstate => ?_, fun hstate => ?_, rfl, rfl, ?_⟩
      · obtain ⟨hwaiting, hcurrent, -, -, -, hfills⟩ := episodeLoaded_current hstate _
        exact ⟨hwaiting, hcurrent, hfills⟩
      · rw [episodeLoaded_next (s := s.freeSlot) hstate]
        exact getLane_setLane_same _ _ _
      · rw [Bool.or_eq_true, hclamped]
    · rintro ⟨m, hm, horder⟩
      refine ⟨_, ?_, hrefusedAt⟩
      rw [exec_of_completed hrst hslot horphan (.shapeComponents k ep count true hk words),
        shapeComponentsDone_refused (loadComponents_outOfRange hm horder)]

end Sys2Proof.Machine
end

section
/-! ### The tests on an episode record (R22 to R31, R34 to R36, R39, R41) -/

namespace Sys2Proof.Machine

theorem clampInt_eq {lo hi : Int} (h : lo ≤ hi) (n : Int) : clampInt lo hi n = max lo (min hi n) := by
  unfold clampInt
  split
  · omega
  · split <;> omega

theorem clampInt_bne_iff {lo hi : Int} (h : lo ≤ hi) (n : Int) : (clampInt lo hi n != n) = true ↔ n < lo ∨ hi < n := by
  rw [bne_iff_ne, clampInt_eq h]
  omega

theorem clampNat_bne_iff {lo hi : Nat} (h : lo ≤ hi) (n : Nat) : (clampNat lo hi n != n) = true ↔ n < lo ∨ hi < n := by
  rw [bne_iff_ne, clampNat_eq h]
  omega

section
variable {code : Nat} {value1 : Int} {value2 : Nat} {kind : Kind} {clamped : Bool}

theorem kindOf_eq_none (h : ¬(1 ≤ code ∧ code ≤ 8)) : kindOf code value1 value2 = none := by
  unfold kindOf
  split
  case h_9 => rfl
  all_goals omega

/-- The kind of a known code, its values brought into range (R26 to R30). -/
theorem kindOf_known (value1 : Int) (value2 : Nat) (h : 1 ≤ code ∧ code ≤ 8) :
    ∃ kind clamped, kindOf code value1 value2 = some (kind, clamped) := by
  obtain ⟨hlow, hhigh⟩ := h
  interval_cases code <;> exact ⟨_, _, rfl⟩

theorem known_of_kindOf (h : kindOf code value1 value2 = some (kind, clamped)) : 1 ≤ code ∧ code ≤ 8 := by
  by_contra hno
  rw [kindOf_eq_none hno] at h
  cases h

theorem kindOf_claimsPhases (h : kindOf code value1 value2 = some (kind, clamped)) :
    kind.claimsPhases = false ↔ code = 5 ∨ code = 7 ∨ code = 8 := by
  obtain ⟨hlow, hhigh⟩ := known_of_kindOf h
  interval_cases code
  all_goals
    obtain ⟨rfl, rfl⟩ := Prod.mk.inj (Option.some.inj h)
    simp [Kind.claimsPhases]

/-- Each code's kind with its values brought into range (R26 to R30, R41). -/
theorem kindOf_values (h : kindOf code value1 value2 = some (kind, clamped)) :
    (code = 1 → kind = .level (max 0 (min 20000 value1)).toNat) ∧ (code = 2 → kind = .openCircuit) ∧
      (code = 3 → kind = .shape value2) ∧
      (code = 4 → kind = .flicker (max 0 (min 2000 value1)).toNat (max 1 (min 3000 value2))
        ((3072000 + max 1 (min 3000 value2)) / (2 * max 1 (min 3000 value2)))) ∧
      (code = 5 → kind = .freq (max 45000 (min 65000 value1)).toNat value2) ∧
      (code = 6 → kind = .jump (max (-1800) (min 1800 value1))
        (BitVec.ofInt 32 (Int.fdiv (max (-1800) (min 1800 value1) * 2 ^ 32) 3600))) ∧
      (code = 7 → kind = .dwell) ∧ (code = 8 → kind = .mark (BitVec.ofInt 16 value1)) := by
  simp only [← clampInt_eq (show (0 : Int) ≤ 20000 by decide), ← clampInt_eq (show (0 : Int) ≤ 2000 by decide),
    ← clampInt_eq (show (45000 : Int) ≤ 65000 by decide), ← clampInt_eq (show (-1800 : Int) ≤ 1800 by decide),
    ← clampNat_eq (show 1 ≤ 3000 by decide)]
  refine ⟨?_, ?_, ?_, ?_, ?_, ?_, ?_, ?_⟩
  all_goals
    rintro rfl
    exact (Prod.mk.inj (Option.some.inj h)).1.symm

/-- A value is clamped where it lies outside its range (R41). -/
theorem kindOf_clamped (h : kindOf code value1 value2 = some (kind, clamped)) : clamped = true ↔
    code = 1 ∧ (value1 < 0 ∨ 20000 < value1) ∨ code = 4 ∧ (value1 < 0 ∨ 2000 < value1) ∨
      code = 4 ∧ (value2 = 0 ∨ 3000 < value2) ∨ code = 5 ∧ (value1 < 45000 ∨ 65000 < value1) ∨
      code = 6 ∧ (value1 < -1800 ∨ 1800 < value1) := by
  have hknown := known_of_kindOf h
  obtain hc | hc | hc | hc | hc | hc | hc | hc : code = 1 ∨ code = 2 ∨ code = 3 ∨ code = 4 ∨ code = 5 ∨ code = 6 ∨
      code = 7 ∨ code = 8 := by omega
  all_goals
    rw [hc] at h
    obtain ⟨-, rfl⟩ := Prod.mk.inj (Option.some.inj h)
  case inl => rw [clampInt_bne_iff (by decide)]; omega
  case inr.inr.inr.inl =>
    rw [Bool.or_eq_true, clampInt_bne_iff (by decide), clampNat_bne_iff (by decide)]
    omega
  case inr.inr.inr.inr.inl => rw [clampInt_bne_iff (by decide)]; omega
  case inr.inr.inr.inr.inr.inl => rw [clampInt_bne_iff (by decide)]; omega
  all_goals
    rw [Bool.false_eq_true, false_iff]
    omega

/-- A SHAPE episode alone names a shape set, by its second value (R27). -/
theorem kindOf_shape {j : Nat} (h : kindOf code value1 value2 = some (.shape j, clamped)) : code = 3 ∧ value2 = j := by
  obtain ⟨hlow, hhigh⟩ := known_of_kindOf h
  obtain rfl | hother : code = 3 ∨ (code = 1 ∨ code = 2 ∨ code = 4 ∨ code = 5 ∨ code = 6 ∨ code = 7 ∨ code = 8) := by omega
  · exact ⟨rfl, Kind.shape.inj (Prod.mk.inj (Option.some.inj h)).1⟩
  · obtain rfl | rfl | rfl | rfl | rfl | rfl | rfl := hother
    all_goals cases h

end

/-! #### The mask and the trigger -/

theorem effectiveMask_apply (mode : BitVec 2) (mask : Byte) (x : Phase) :
    getPhase (effectiveMask mode mask) x = (mask.getLsbD (phaseBit x) && present mode x) := getPhase_tabPhase _ x

theorem maskEmpty_effectiveMask (mode : BitVec 2) (mask : Byte) : maskEmpty (effectiveMask mode mask) = true ↔
    ¬∃ x, mask.getLsbD (phaseBit x) = true ∧ present mode x = true := by
  have hphase : (∃ x, mask.getLsbD (phaseBit x) = true ∧ present mode x = true) ↔
      ∃ x, getPhase (effectiveMask mode mask) x = true := by
    simp only [effectiveMask_apply, Bool.and_eq_true]
  rw [hphase]
  generalize effectiveMask mode mask = m
  constructor
  · rintro hempty ⟨x, hx⟩
    simp only [maskEmpty, Bool.and_eq_true, Bool.not_eq_true'] at hempty
    obtain ⟨⟨ha, hb⟩, hc⟩ := hempty
    cases x
    · exact Bool.noConfusion (ha.symm.trans hx)
    · exact Bool.noConfusion (hb.symm.trans hx)
    · exact Bool.noConfusion (hc.symm.trans hx)
  · intro hnone
    have hfalse : ∀ x, getPhase m x = false := fun x => Bool.eq_false_iff.2 fun hx => hnone ⟨x, hx⟩
    have ha : m.a = false := hfalse .A
    have hb : m.b = false := hfalse .B
    have hc : m.c = false := hfalse .C
    rw [maskEmpty, ha, hb, hc]
    rfl

theorem referenceOf_eq (m : PerPhase Bool) : referenceOf m =
    if getPhase m .A then .A else if getPhase m .B then .B else if getPhase m .C then .C else .A := rfl

theorem laneOfNumber_of_le {n : Nat} (h : n ≤ 5) : ∃ k, laneNumber k = n ∧ laneOfNumber? n = some k := by
  interval_cases n <;> exact ⟨_, rfl, rfl⟩

theorem laneOfNumber_of_gt {n : Nat} (h : 5 < n) : laneOfNumber? n = none := by
  unfold laneOfNumber?
  split
  case h_7 => rfl
  all_goals omega

/-- The trigger types and arguments that R31 takes. -/
def TriggerTaken (type arg : Nat) : Prop :=
  type = 0 ∨ type = 1 ∨ (type = 2 ∧ arg < 3600) ∨ (type = 3 ∧ arg ≤ 3) ∨ (type = 4 ∧ arg ≤ 5) ∨ type = 5

theorem triggerOf_refused {type arg : Nat} (h : ¬TriggerTaken type arg) : triggerOf type arg = none := by
  unfold TriggerTaken at h
  unfold triggerOf
  split
  case h_1 | h_2 | h_6 => omega
  case h_3 => exact if_neg (by omega)
  case h_4 => exact if_neg (by omega)
  case h_5 => rw [laneOfNumber_of_gt (by omega)]; rfl
  case h_7 => rfl

theorem triggerOf_taken {type arg : Nat} (h : TriggerTaken type arg) : ∃ trigger, triggerOf type arg = some trigger ∧
    (type = 0 → trigger = .immediate) ∧ (type = 1 → trigger = .cycle) ∧ (type = 2 → trigger = .angle arg) ∧
    (type = 3 → trigger = .ext arg) ∧ (type = 4 → ∃ j, laneNumber j = arg ∧ trigger = .cascade j) ∧
    (type = 5 → trigger = .current arg) := by
  obtain rfl | rfl | ⟨rfl, harg⟩ | ⟨rfl, harg⟩ | ⟨rfl, harg⟩ | rfl := h
  · exact ⟨_, rfl, by simp⟩
  · exact ⟨_, rfl, by simp⟩
  · exact ⟨_, if_pos harg, by simp⟩
  · exact ⟨_, if_pos harg, by simp⟩
  · obtain ⟨j, hj, hlane⟩ := laneOfNumber_of_le harg
    exact ⟨.cascade j, by simp [triggerOf, hlane], by simp [hj]⟩
  · exact ⟨_, rfl, by simp⟩

/-! #### The tests in their order -/

section
variable {mode : BitVec 2} {episodes shapes n : Nat} {ws : List Word} {kind : Kind} {clamped : Bool} {trigger : Trigger}

theorem validateRecord_unknownKind (h : ¬(1 ≤ u8 ws 0 ∧ u8 ws 0 ≤ 8)) :
    validateRecord mode episodes shapes n ws = .error (.unknownKind, halfIndex n) := by
  rw [validateRecord, kindOf_eq_none h]

theorem validateRecord_emptyMask (hkind : kindOf (u8 ws 0) (s32 ws 8) (u32 ws 12) = some (kind, clamped))
    (hmask : (kind.claimsPhases && maskEmpty (effectiveMask mode (byteAt ws 2))) = true) :
    validateRecord mode episodes shapes n ws = .error (.emptyMask, halfIndex n) := by
  rw [validateRecord, hkind]
  exact if_pos hmask

theorem validateRecord_badTrigger (hkind : kindOf (u8 ws 0) (s32 ws 8) (u32 ws 12) = some (kind, clamped))
    (hmask : (kind.claimsPhases && maskEmpty (effectiveMask mode (byteAt ws 2))) = false)
    (htrigger : triggerOf (u8 ws 3) (u32 ws 4) = none) :
    validateRecord mode episodes shapes n ws = .error (.badTrigger, halfIndex n) := by
  rw [validateRecord, hkind]
  dsimp only
  rw [hmask, htrigger]
  rfl

theorem validateRecord_chain (hkind : kindOf (u8 ws 0) (s32 ws 8) (u32 ws 12) = some (kind, clamped))
    (hmask : (kind.claimsPhases && maskEmpty (effectiveMask mode (byteAt ws 2))) = false)
    (htrigger : triggerOf (u8 ws 3) (u32 ws 4) = some trigger)
    (hchain : ((byteAt ws 1).getLsbD 0 && decide (episodes ≤ u16 ws 28)) = true) :
    validateRecord mode episodes shapes n ws = .error (.indexRange, halfIndex (u16 ws 28)) := by
  rw [validateRecord, hkind]
  dsimp only
  rw [hmask, htrigger, hchain]
  rfl

/-- A record that passes the first four tests is loaded, but for a SHAPE one whose set does not exist (R39). -/
theorem validateRecord_rest (hkind : kindOf (u8 ws 0) (s32 ws 8) (u32 ws 12) = some (kind, clamped))
    (hmask : (kind.claimsPhases && maskEmpty (effectiveMask mode (byteAt ws 2))) = false)
    (htrigger : triggerOf (u8 ws 3) (u32 ws 4) = some trigger)
    (hchain : ((byteAt ws 1).getLsbD 0 && decide (episodes ≤ u16 ws 28)) = false) :
    (∀ j, kind = .shape j → shapes ≤ j →
        validateRecord mode episodes shapes n ws = .error (.indexRange, halfIndex j)) ∧
      ((∀ j, kind = .shape j → j < shapes) →
        validateRecord mode episodes shapes n ws = .ok (loadEpisode mode n ws kind clamped trigger)) := by
  rw [validateRecord, hkind]
  dsimp only
  rw [hmask, htrigger, hchain]
  constructor
  · rintro j rfl hj
    exact if_pos hj
  · intro hshape
    cases kind with
    | shape j => exact if_neg (Nat.not_le.2 (hshape j rfl))
    | _ => rfl

end

/-! #### The loaded episode -/

/-- The watch part of a record, and where it is marked as clamped (R36, R41). -/
theorem watchPartOf_eq (band hold limit : Nat) :
    (watchPartOf band hold limit).1 = { band := max 1 (min 100 band), hold := max 1 hold, limit := max 1 limit } ∧
      ((watchPartOf band hold limit).2 = true ↔ band = 0 ∨ 100 < band ∨ hold = 0 ∨ limit = 0) := by
  constructor
  · rw [watchPartOf, clampNat_eq (by decide)]
  · simp only [watchPartOf, Bool.or_eq_true, clampNat_bne_iff (show 1 ≤ 100 by decide), bne_iff_ne]
    omega

/-- Where an episode is marked as clamped (R41). -/
theorem loadEpisode_clamped (mode : BitVec 2) (n : Nat) (ws : List Word) (kind : Kind) (clamped : Bool)
    (trigger : Trigger) : (loadEpisode mode n ws kind clamped trigger).clamped = true ↔
      clamped = true ∨ 4095 < u16 ws 24 ∨ (byteAt ws 1).getLsbD 1 = true ∧
        (u8 ws 30 = 0 ∨ 100 < u8 ws 30 ∨ u8 ws 31 = 0 ∨ u16 ws 32 = 0) := by
  have hrepeats : (min (u16 ws 24) 4095 != u16 ws 24) = true ↔ 4095 < u16 ws 24 := by
    rw [bne_iff_ne]
    omega
  have hwatch := (watchPartOf_eq (u8 ws 30) (u8 ws 31) (u16 ws 32)).2
  rw [← hrepeats, ← hwatch]
  change (clamped || min (u16 ws 24) 4095 != u16 ws 24 ||
    (Option.map Prod.snd (if (byteAt ws 1).getLsbD 1 then some (watchPartOf (u8 ws 30) (u8 ws 31) (u16 ws 32))
      else none)).getD false) = true ↔ _
  cases (byteAt ws 1).getLsbD 1 <;> simp [or_assoc]

theorem loadEpisode_watch (mode : BitVec 2) (n : Nat) (ws : List Word) (kind : Kind) (clamped : Bool)
    (trigger : Trigger) : (loadEpisode mode n ws kind clamped trigger).watch =
      if (byteAt ws 1).getLsbD 1 then
        some { band := max 1 (min 100 (u8 ws 30)), hold := max 1 (u8 ws 31), limit := max 1 (u16 ws 32) }
      else none := by
  rw [← (watchPartOf_eq _ _ _).1]
  change Option.map Prod.fst (if (byteAt ws 1).getLsbD 1 then some (watchPartOf (u8 ws 30) (u8 ws 31) (u16 ws 32))
    else none) = _
  cases (byteAt ws 1).getLsbD 1 <;> rfl

/-- Settles O23: a test after another, then the loaded episode field by field. -/
theorem recordTestsStandInOrder : Obligations.RecordTestsStandInOrder := by
  intro mode episodes shapes n ws hn code known masked triggered chained shaped value1 value2 rate jumpUnits
  have hchain : ((byteAt ws 1).getLsbD 0 && decide (episodes ≤ u16 ws 28)) = false ↔ chained := by
    rw [Bool.and_eq_false_imp]
    simp only [decide_eq_false_iff_not, Nat.not_le]
    rfl
  have hmask : ∀ kind clamped, kindOf code value1 value2 = some (kind, clamped) →
      ((kind.claimsPhases && maskEmpty (effectiveMask mode (byteAt ws 2))) = false ↔ masked) := by
    intro kind clamped hkind
    rw [Bool.and_eq_false_iff, kindOf_claimsPhases hkind, ← Bool.not_eq_true, maskEmpty_effectiveMask, not_not, or_assoc,
      or_assoc]
  refine ⟨fun hknown => ?_, fun hknown hempty => ?_, fun hknown hmasked hbad => ?_,
    fun hknown hmasked htaken hbroken => ?_, fun hknown hmasked htaken hwhole hmissing hset => ?_,
    fun hknown hmasked htaken hwhole hshaped => ?_⟩
  · rw [validateRecord_unknownKind hknown, halfIndex_of_lt hn]
  all_goals obtain ⟨kind, clamped, hkind⟩ := kindOf_known value1 value2 hknown
  · rw [validateRecord_emptyMask hkind (Bool.not_eq_false _ ▸ mt (hmask _ _ hkind).1 hempty), halfIndex_of_lt hn]
  · rw [validateRecord_badTrigger hkind ((hmask _ _ hkind).2 hmasked) (triggerOf_refused hbad), halfIndex_of_lt hn]
  all_goals obtain ⟨trigger, htrigger, himmediate, hcycle, hangle, hext, hcascade, hcurrent⟩ := triggerOf_taken htaken
  · rw [validateRecord_chain hkind ((hmask _ _ hkind).2 hmasked) htrigger
      (Bool.not_eq_false _ ▸ mt hchain.1 hbroken), halfIndex_of_lt (lt_of_le_of_lt (u16_le _ _) (by decide))]
  all_goals
    obtain ⟨hrefused, hloaded⟩ := validateRecord_rest (shapes := shapes) (n := n) hkind ((hmask _ _ hkind).2 hmasked)
      htrigger (hchain.2 hwhole)
    obtain ⟨hlevel, hopen, hshape, hflicker, hfreq, hjump, hdwell, hmark⟩ := kindOf_values hkind
  · obtain ⟨hcode, hge⟩ := Classical.not_imp.1 hmissing
    rw [hrefused _ (hshape hcode) (Nat.not_lt.1 hge), halfIndex_of_lt hset]
  · refine ⟨_, clamped, hloaded fun j hj => ?_, rfl, rfl, rfl, kindOf_inRange hkind, himmediate, hcycle, hangle, hext,
      hcascade, hcurrent, hlevel, hopen, hshape, hflicker, hfreq, hjump, hdwell, hmark, ?_, referenceOf_eq _, rfl,
      loadEpisode_watch _ _ _ _ _ _, rfl, effectiveMask_apply _ _, rfl, rfl, rfl⟩
    · subst hj
      obtain ⟨hcode, rfl⟩ := kindOf_shape hkind
      exact hshaped hcode
    · rw [loadEpisode_clamped, kindOf_clamped hkind]
      simp only [or_assoc]

end Sys2Proof.Machine
end

section
/-! ### Frames, records and the arithmetic of a sample (R90, R94, R110 to R112, R134, R164) -/

namespace Sys2Proof.Machine

/-! #### Bytes -/

theorem toNat_append_byte {w : Nat} (x : BitVec w) (y : Byte) : (x ++ y).toNat = 256 * x.toNat + y.toNat := by
  rw [BitVec.toNat_append, ← Nat.shiftLeft_add_eq_or_of_lt y.isLt, Nat.shiftLeft_eq, Nat.mul_comm]

/-- The signed code at a place of a frame, by its two bytes (R134). -/
theorem codeAt_eq (bytes : List Byte) (n : Nat) :
    codeAt bytes n = (BitVec.ofNat 16 (256 * (bytes.getD n 0).toNat + (bytes.getD (n + 1) 0).toNat)).toInt := by
  refine congrArg BitVec.toInt (BitVec.eq_of_toNat_eq ?_)
  have hbound := (bytes.getD n 0 ++ bytes.getD (n + 1) 0).isLt
  rw [toNat_append_byte] at hbound ⊢
  rw [BitVec.toNat_ofNat, Nat.mod_eq_of_lt hbound]

theorem toNat_foldl_add (bytes : List Byte) (acc : Byte) :
    (bytes.foldl (· + ·) acc).toNat = (acc.toNat + (bytes.map BitVec.toNat).sum) % 256 := by
  induction bytes generalizing acc with
  | nil => exact (Nat.mod_eq_of_lt acc.isLt).symm
  | cons b bytes ih =>
    rw [List.foldl_cons, ih, BitVec.toNat_add, List.map_cons, List.sum_cons]
    omega

theorem checkSum_eq_zero_iff (bytes : List Byte) :
    (checkSum bytes == 0) = true ↔ (bytes.map BitVec.toNat).sum % 256 = 0 := by
  have hsum := toNat_foldl_add bytes 0
  rw [beq_iff_eq, ← BitVec.toNat_inj, checkSum, hsum]
  simp

theorem goodFrame_iff (f : FrameArrival) : goodFrame f = true ↔
    f.ended = true ∧ f.acrossSoftReset = false ∧ f.bytes.length = 13 ∧ (f.bytes.map BitVec.toNat).sum % 256 = 0 := by
  simp only [goodFrame, Bool.and_eq_true, Bool.not_eq_true', decide_eq_true_eq, checkSum_eq_zero_iff, and_assoc]
  rfl

/-- Settles O30. -/
theorem measurementFrameIsHeldWhenGood : Obligations.MeasurementFrameIsHeldWhenGood := by
  intro f s hrst code good
  have hexec : exec (.measurementFrame f) s = .next { s with measure := s.measure.receive f } :=
    whileReleased_of_released hrst _
  rw [hexec, Measure.receive]
  refine ⟨fun hgood => ?_, fun hbad => ?_⟩
  · rw [if_pos ((goodFrame_iff f).2 hgood), frameCodes]
    simp only [codeAt_eq]
    rfl
  · rw [if_neg (mt (goodFrame_iff f).1 hbad)]

/-! #### The bytes of a record -/

theorem half_of_le16 (h : Half) : (h.extractLsb' 0 8).toNat + 256 * (h.extractLsb' 8 8).toNat = h.toNat := by
  have hbound := h.isLt
  rw [BitVec.extractLsb'_toNat, BitVec.extractLsb'_toNat, Nat.shiftRight_eq_div_pow, Nat.shiftRight_eq_div_pow]
  omega

theorem word_of_le32 (w : Word) : (w.extractLsb' 0 8).toNat + 256 * (w.extractLsb' 8 8).toNat +
    65536 * ((w.extractLsb' 16 8).toNat + 256 * (w.extractLsb' 24 8).toNat) = w.toNat := by
  have hbound := w.isLt
  simp only [BitVec.extractLsb'_toNat, Nat.shiftRight_eq_div_pow]
  omega

theorem wordOf_toNat (bytes : List Byte) : (wordOf bytes).toNat =
    (bytes.getD 0 0).toNat + 256 * (bytes.getD 1 0).toNat +
      65536 * ((bytes.getD 2 0).toNat + 256 * (bytes.getD 3 0).toNat) := by
  rw [wordOf, toNat_append_byte, toNat_append_byte, toNat_append_byte]
  omega

theorem detailByte_toNat (b0 b1 b2 : Bool) : (detailByte b0 b1 b2).toNat = b0.toNat + 2 * b1.toNat + 4 * b2.toNat := by
  revert b0 b1 b2
  decide

/-! The codes of R164, one list for each kind of value. -/

theorem outcome_code_mem (outcome : WatchOutcome) : (outcome, outcome.code.toNat) ∈
    [(WatchOutcome.recovered, 1), (.notRecovered, 2), (.noReference, 3), (.superseded, 4), (.abandoned, 5)] := by
  cases outcome <;> decide

theorem refused_code_mem (cause : Refused) : (cause, cause.code.toNat) ∈
    [(Refused.unknownKind, 1), (.emptyMask, 2), (.badTrigger, 3), (.indexRange, 4), (.badShape, 5), (.cueCount, 6),
      (.bus, 7), (.stopped, 8)] := by
  cases cause <;> decide

theorem engineCause_code_mem (cause : EngineCause) : (cause, cause.code.toNat) ∈
    [(EngineCause.start, 1), (.loaded, 2), (.startRefused, 3), (.closed, 4), (.softstartDone, 5), (.release, 6),
      (.released, 7), (.trip, 8), (.fault, 9), (.measLost, 10), (.clear, 11)] := by
  cases cause <;> decide

theorem stateByte_mem (engine : EngineState) : (engine, (stateByte engine).toNat) ∈
    [(EngineState.standby, 0), (.loading, 1), (.closing, 2), (.softstart, 3), (.running, 4), (.releasing, 5),
      (.tripped, 6), (.faulted, 7)] := by
  cases engine <;> decide

theorem reason_code_mem (reason : RefusalReason) : (reason, reason.code.toNat) ∈
    [(RefusalReason.none, 0), (.notReady, 1), (.bus, 2)] := by
  cases reason <;> decide

theorem phaseByte_mem (phase : Option Phase) : (phase, (phaseByte phase).toNat) ∈
    [(some Phase.A, 0), (some .B, 1), (some .C, 2), (none, 255)] := by
  cases phase with
  | none => decide
  | some x => cases x <;> decide

/-- The defined bytes of a record: the head and the payload. -/
def Record.defined (r : Record) : List Byte :=
  [r.body.kindCode, laneCode r.lane, r.gap, r.body.detail] ++ le32 r.cycle ++ le16 r.sample ++ le16 r.episode ++
    r.body.payload

theorem Record.bytes_eq (r : Record) : r.bytes = r.defined ++ List.replicate (32 - r.defined.length) 0 := rfl

theorem Record.defined_length (r : Record) : r.defined.length = 12 + r.body.payload.length := by
  simp [Record.defined, le32, le16]
  omega

theorem payload_length_le (b : RecordBody) : b.payload.length ≤ 20 := by
  cases b <;> simp [RecordBody.payload, le16s, le16, le32]

theorem Record.bytes_length (r : Record) : r.bytes.length = 32 := by
  have hpayload := payload_length_le r.body
  have hdefined := r.defined_length
  rw [r.bytes_eq, List.length_append, List.length_replicate]
  omega

theorem getD_replicate_zero (n m : Nat) : (List.replicate n (0 : Byte)).getD m 0 = 0 := by
  rw [List.getD_eq_getElem?_getD, List.getElem?_replicate]
  split <;> rfl

/-- The bytes that a record's kind does not define are 0. -/
theorem Record.bytes_undefined (r : Record) {m : Nat} (h : 12 + r.body.payload.length ≤ m) : r.bytes.getD m 0 = 0 := by
  rw [← r.defined_length] at h
  rw [r.bytes_eq, List.getD_append_right _ _ _ _ h, getD_replicate_zero]

theorem Record.words_getD (r : Record) {n : Nat} (h : n < 8) : r.words.getD n 0 = wordOf (r.bytes.drop (4 * n)) := by
  rw [Record.words]
  interval_cases n <;> rfl

theorem getD_drop (bytes : List Byte) (n i : Nat) : (bytes.drop n).getD i 0 = bytes.getD (n + i) 0 := by
  rw [List.getD_eq_getElem?_getD, List.getElem?_drop, ← List.getD_eq_getElem?_getD]

/-- Settles O52: the head, then the payload of each kind by its little-endian fields. -/
theorem recordBytesFollowTheLayout : Obligations.RecordBytesFollowTheLayout := by
  intro r byte half word zeroFrom
  have hzero : ∀ n, 12 + r.body.payload.length ≤ n → zeroFrom n := fun n hn m hm _ =>
    congrArg BitVec.toNat (r.bytes_undefined (hn.trans hm))
  refine ⟨r.bytes_length, by simp [Record.words], fun n hn => ?_, ?_, rfl, word_of_le32 r.cycle, half_of_le16 r.sample,
    half_of_le16 r.episode, ?_⟩
  · rw [r.words_getD hn, wordOf_toNat]
    simp only [getD_drop]
    rfl
  · have hlane : byte 1 = (laneCode r.lane).toNat := rfl
    rw [hlane]
    cases r.lane with
    | none => rfl
    | some k => cases k <;> rfl
  · obtain ⟨lane, gap, cycle, sample, episode, body⟩ := r
    cases body with
    | episodeStart clamped rampCut late start iref application =>
      exact ⟨rfl, detailByte_toNat _ _ _, half_of_le16 _, half_of_le16 _, half_of_le16 _, half_of_le16 _,
        half_of_le16 _, hzero 22 le_rfl⟩
    | episodeEnd cut stretched rmsMin rmsMax clips openSpan application =>
      exact ⟨rfl, detailByte_toNat _ _ _, half_of_le16 _, half_of_le16 _, word_of_le32 _, word_of_le32 _,
        half_of_le16 _, hzero 26 le_rfl⟩
    | watchResult outcome cycles lastRms iref =>
      exact ⟨rfl, outcome_code_mem outcome, half_of_le16 _, half_of_le16 _, half_of_le16 _, hzero 18 le_rfl⟩
    | cycleSummary clipped rmsV rmsI peakI stale =>
      exact ⟨rfl, detailByte_toNat _ _ _, half_of_le16 _, half_of_le16 _, half_of_le16 _, half_of_le16 _,
        half_of_le16 _, half_of_le16 _, half_of_le16 _, half_of_le16 _, half_of_le16 _, half_of_le16 _⟩
    | planRefused cause offending =>
      exact ⟨rfl, refused_code_mem cause, half_of_le16 _, hzero 14 le_rfl⟩
    | laneHalted cause => exact ⟨rfl, refused_code_mem cause, hzero 12 le_rfl⟩
    | engine cause newState reason phase peak =>
      exact ⟨rfl, engineCause_code_mem cause, stateByte_mem newState, reason_code_mem reason, phaseByte_mem phase, rfl,
        half_of_le16 _, hzero 18 le_rfl⟩
    | marker tag => exact ⟨rfl, rfl, half_of_le16 _, hzero 14 le_rfl⟩

/-! #### Codes -/

/-- The nearest integer of a quotient is unique where there is no tie. -/
theorem nearest_unique {q q' n : Int} {d : Nat} (h : 2 * |q * d - n| < d) (h' : 2 * |q' * d - n| < d) : q = q' := by
  by_contra hne
  have hgap : (d : Int) ≤ |(q - q') * d| := by
    rw [abs_mul, Nat.abs_cast]
    exact le_mul_of_one_le_left (Int.natCast_nonneg d) (Int.one_le_abs (sub_ne_zero.2 hne))
  have hsum : |(q - q') * d| ≤ |q * d - n| + |q' * d - n| := by
    have hdiff : (q - q') * d = (q * d - n) - (q' * d - n) := by ring
    rw [hdiff]
    exact abs_sub _ _
  omega

/-- Scaling has no tie, since 131 071 is odd (R111). -/
theorem scaled_nearest (v : Int) (peak : Nat) : 2 * |scaled v peak * 131071 - v * peak| < 131071 := by
  have herror : 2 * |scaled v peak * 131071 - v * peak| ≤ 131071 := roundDiv_error (v * Int.ofNat peak) 131071 (by decide)
  omega

theorem scaled_unique {v q : Int} {peak : Nat} (h : 2 * |q * 131071 - v * peak| < 131071) : scaled v peak = q :=
  nearest_unique (d := 131071) (scaled_nearest v peak) h

/-- Settles O54. -/
theorem codeArithmetic : Obligations.CodeArithmetic := by
  refine ⟨fun w e m => ⟨rfl, ?_, ?_, ?_⟩, fun v peak => ⟨scaled_nearest v peak, ?_, ?_⟩, fun c code => ⟨?_, ?_, ?_⟩⟩
  · rw [modulated, modulated, neg_mul, neg_mul]
    exact Int.neg_tdiv _ _
  · have hfactor : w * 10000 * Int.ofNat 10000 = w * 100000000 := by rw [mul_assoc]; rfl
    rw [modulated, hfactor]
    exact Int.mul_tdiv_cancel w (by decide)
  · rw [modulated, mul_zero, zero_mul]
    exact Int.zero_tdiv _
  · refine scaled_unique ?_
    rw [mul_comm (peak : Int), sub_self]
    decide
  · refine scaled_unique ?_
    have hneg : -scaled v peak * 131071 - -v * peak = -(scaled v peak * 131071 - v * peak) := by ring
    rw [hneg, abs_neg]
    exact scaled_nearest v peak
  · exact fun h => if_pos h
  · exact fun h => (if_neg (by rw [Int.ofNat_eq_natCast]; omega)).trans (if_pos h)
  · exact fun hlow hhigh => (if_neg (not_lt.2 hhigh)).trans (if_neg (not_lt.2 hlow))

/-! #### Frequency -/

/-- Settles O55: the increment has no tie, since 2 × F × 2^32 is a multiple of 2^14 and 25 600 000 is not. -/
theorem frequencyMovesByTheSlew : Obligations.FrequencyMovesByTheSlew := by
  refine ⟨fun f target slew => ?_, fun f => ?_⟩
  · unfold moveFrequency
    refine ⟨fun hslew => if_pos hslew, fun hslew hnear => ?_, fun hslew habove => ?_, fun hslew hbelow => ?_, ?_⟩
    · obtain ⟨hlow, hhigh⟩ := abs_le.1 hnear
      rw [if_neg (by omega), if_neg (by omega), if_neg (by omega)]
    · rw [if_neg (by omega), if_pos (by omega)]
    · rw [if_neg (by omega), if_neg (by omega), if_pos (by omega)]
      omega
    · split_ifs <;> omega
  · unfold incrementOf fullCycle freqInRange
    refine ⟨?_, fun ⟨hlow, hhigh⟩ => ?_⟩
    · have hdiv := Nat.div_add_mod (2 * f * 4294967296 + 25600000) 51200000
      have hmod := Nat.mod_lt (2 * f * 4294967296 + 25600000) (show 51200000 > 0 by decide)
      cases abs_cases (((2 * f * 4294967296 + 25600000) / 51200000 : Nat) * 25600000 - f * 4294967296 : Int) <;> omega
    · omega

end Sys2Proof.Machine
end

section
/-! ### The completed scan (R6, R7, R14) -/

namespace Sys2Proof.Machine

theorem postAll_append (j : Journal) (rs rs' : List Record) : j.postAll (rs ++ rs') = (j.postAll rs).postAll rs' :=
  List.foldl_append

theorem mem_queue_post {j : Journal} {r x : Record} (h : r ∈ (j.post x).queue) : r ∈ j.queue ∨ r = x := by
  unfold Journal.post at h
  split at h
  · exact (List.mem_append.1 h).imp_right List.mem_singleton.1
  · exact .inl h

theorem mem_queue_postAll {j : Journal} {r : Record} {rs : List Record} (h : r ∈ (j.postAll rs).queue) :
    r ∈ j.queue ∨ r ∈ rs := by
  induction rs generalizing j with
  | nil => exact .inl h
  | cons x rs ih =>
    obtain hpost | hrest := ih h
    · obtain hold | rfl := mem_queue_post hpost
      · exact .inl hold
      · exact .inr (List.mem_cons_self ..)
    · exact .inr (List.mem_cons_of_mem _ hrest)

theorem setFlag_setFlag (w : Window) (f : Flag) : (w.setFlag f).setFlag f = w.setFlag f := by
  simp only [Window.setFlag, Window.drive, BitVec.or_assoc, BitVec.or_self]

theorem setFlagIf_setFlagIf (w : Window) (b c : Bool) (f : Flag) :
    (w.setFlagIf b f).setFlagIf c f = w.setFlagIf (b || c) f := by
  cases b with
  | false => rfl
  | true =>
    cases c with
    | false => rfl
    | true => exact setFlag_setFlag w f

/-- Work on one lane after another, each of which leaves the others and what they read as they are: every lane does its
work, and the records join the queue in the lanes' order. -/
theorem foldl_runLane (f : LaneEnv → Lane → LaneOut) (ks : List LaneId) (hks : ks.Nodup) (s : State) :
    let out := fun k => f (s.laneEnv k) (getLane s.lanes k)
    let t := ks.foldl (fun s k => s.runLane k f) s
    t = { s with
      lanes := t.lanes
      journal := s.journal.postAll (ks.flatMap fun k => (out k).records)
      window := s.window.setFlagIf (ks.any fun k => (out k).plan) .plan } ∧
    ∀ k, getLane t.lanes k = if k ∈ ks then (out k).lane else getLane s.lanes k := by
  induction ks generalizing s with
  | nil => exact ⟨rfl, fun k => rfl⟩
  | cons k ks ih =>
    obtain ⟨hk, hks⟩ := List.nodup_cons.1 hks
    obtain ⟨hstate, hlanes⟩ := ih hks (s.runLane k f)
    have hother : ∀ j ∈ ks, getLane (s.runLane k f).lanes j = getLane s.lanes j := fun j hj =>
      runLane_lanes_of_ne _ _ (fun heq => hk (heq ▸ hj))
    have hout : ∀ j ∈ ks, f ((s.runLane k f).laneEnv j) (getLane (s.runLane k f).lanes j) =
        f (s.laneEnv j) (getLane s.lanes j) := fun j hj => by rw [hother j hj]; rfl
    dsimp only at hstate hlanes ⊢
    rw [List.foldl_cons]
    refine ⟨hstate.trans ?_, fun j => (hlanes j).trans ?_⟩
    · have hrecords : (ks.flatMap fun j => (f ((s.runLane k f).laneEnv j) (getLane (s.runLane k f).lanes j)).records) =
          ks.flatMap fun j => (f (s.laneEnv j) (getLane s.lanes j)).records :=
        List.flatMap_congr fun j hj => by rw [hout j hj]
      have hplan : (ks.any fun j => (f ((s.runLane k f).laneEnv j) (getLane (s.runLane k f).lanes j)).plan) =
          ks.any fun j => (f (s.laneEnv j) (getLane s.lanes j)).plan := by
        rw [Bool.eq_iff_iff, List.any_eq_true, List.any_eq_true]
        exact exists_congr fun j => and_congr_right fun hj => by rw [hout j hj]
      rw [hrecords, hplan, List.flatMap_cons, List.any_cons, postAll_append, ← setFlagIf_setFlagIf]
      rfl
    · by_cases hj : j ∈ ks
      · rw [if_pos hj, if_pos (List.mem_cons_of_mem _ hj), hout j hj]
      · rw [if_neg hj]
        by_cases heq : j = k
        · subst heq
          rw [if_pos (List.mem_cons_self ..)]
          exact runLane_lane _ _ _
        · rw [if_neg (by simp [heq, hj])]
          exact runLane_lanes_of_ne _ _ heq

/-- The cue tests of the six lanes at once (R6, R7). -/
theorem cueTests_spec (s : State) :
    s.cueTests = { s with
      lanes := s.cueTests.lanes
      journal := s.journal.postAll (allLanes.flatMap fun k => (cueTest (s.laneEnv k) (getLane s.lanes k)).records)
      window := s.window.setFlagIf (allLanes.any fun k => (cueTest (s.laneEnv k) (getLane s.lanes k)).plan) .plan } ∧
    ∀ k, getLane s.cueTests.lanes k = (cueTest (s.laneEnv k) (getLane s.lanes k)).lane := by
  obtain ⟨hstate, hlanes⟩ := foldl_runLane cueTest allLanes (by decide) s
  exact ⟨hstate, fun k => (hlanes k).trans (if_pos (mem_allLanes k))⟩

section
variable {e : LaneEnv} {l : Lane}

/-- A cue test that finds nothing to do, or whose request a stop pending bars, leaves the lane as it is (R7, R66). -/
theorem cueTest_idle (h : ¬(e.engine.cueOpen = true ∧ l.needsEpisode = true) ∨ cueDistance e.posted e.taken = 0 ∨
    (l.pendingStop = true ∧ cueDistance e.posted e.taken ≤ 16)) : cueTest e l = { lane := l } := by
  by_cases happlied : e.engine.cueOpen = true ∧ l.needsEpisode = true
  · obtain ⟨hzero, hnear, -⟩ := cueTest_of_needs happlied.1 happlied.2
    by_cases hd : cueDistance e.posted e.taken = 0
    · exact hzero hd
    · obtain hno | hnone | ⟨hstop, hle⟩ := h
      · exact absurd happlied hno
      · exact absurd hnone hd
      · rw [hnear (by omega) hle, (Lane.requestCue_spec l).1 hstop]
  · exact (cueTest_spec e l).1 (by rw [← Bool.not_eq_true, Bool.and_eq_true]; exact happlied)

/-- A cue test that refuses nothing posts nothing (R7). -/
theorem cueTest_quiet (h : e.engine.cueOpen = true ∧ l.needsEpisode = true → cueDistance e.posted e.taken ≤ 16) :
    (cueTest e l).records = [] ∧ (cueTest e l).plan = false := by
  by_cases happlied : e.engine.cueOpen = true ∧ l.needsEpisode = true
  · obtain ⟨hzero, hnear, -⟩ := cueTest_of_needs happlied.1 happlied.2
    by_cases hd : cueDistance e.posted e.taken = 0
    · rw [hzero hd]
      exact ⟨rfl, rfl⟩
    · rw [hnear (by omega) (h happlied)]
      exact ⟨rfl, rfl⟩
  · rw [cueTest_idle (.inl happlied)]
    exact ⟨rfl, rfl⟩

theorem not_fetching_of_needsEpisode (h : l.needsEpisode = true) : l.state ≠ .fetching := by
  intro hstate
  rw [Lane.needsEpisode, hstate] at h
  cases h

end

/-- The part with the copies of a scan in place, its cue tests still to come (R6, R10, R13, R14). -/
def State.scanned (s : State) (words : Vector Word 7) : State :=
  { s with
    port :=
      { s.port with
        posted := ⟨words[0], words[1], words[2], words[3], words[4], words[5]⟩
        readCount := words[6] }.judgeFill.requestOwed }

theorem scanDone_eq (s : State) (words : Vector Word 7) : s.scanDone words = (s.scanned words).cueTests := rfl

theorem scanned_posted (s : State) (words : Vector Word 7) (k : LaneId) :
    getLane (s.scanned words).port.posted k = words.toList.getD (laneNumber k) 0 := by
  have hget : ∀ n (h : n < 7), words[n] = words.toList.getD n 0 := fun n h => by
    rw [List.getD_eq_getElem _ _ (by rw [Vector.length_toList]; exact h), Vector.getElem_toList]
  cases k <;> exact hget _ _

/-- A cue test that refuses: its records, and the lane by its state (R7, R40). -/
theorem cueTest_far {e : LaneEnv} {l : Lane} (hneeds : e.engine.cueOpen = true ∧ l.needsEpisode = true)
    (hfar : 17 ≤ cueDistance e.posted e.taken) :
    (cueTest e l).plan = true ∧
      (l.state = .idle → (cueTest e l).lane = l.halted ∧
        (cueTest e l).records = [e.record noEpisode (.planRefused .cueCount (BitVec.ofNat 16 (e.taken.toNat % 16))),
          e.record noEpisode (.laneHalted .cueCount)]) ∧
      (l.state ≠ .idle → (cueTest e l).lane = { l with next := .refused .cueCount noEpisode, request := none } ∧
        (cueTest e l).records =
          [e.record noEpisode (.planRefused .cueCount (BitVec.ofNat 16 (e.taken.toNat % 16)))]) := by
  rw [(cueTest_of_needs hneeds.1 hneeds.2).2.2 hfar, halfIndex_cueSlot]
  obtain ⟨hplan, -, hcurrent, hnext⟩ := refuse_spec e .cueCount (BitVec.ofNat 16 (e.taken.toNat % 16)) noEpisode l
  exact ⟨hplan, fun hidle => hcurrent (.inl hidle),
    fun hne => hnext hne (not_fetching_of_needsEpisode hneeds.2)⟩

/-- Settles O20: the cue tests of the six lanes, each by its outcome. -/
theorem scanCompletionReplacesTheCounts : Obligations.ScanCompletionReplacesTheCounts := by
  intro s tr words hrst hslot horphan hk
  obtain ⟨hstate, hlanes⟩ := cueTests_spec (s.freeSlot.scanned words)
  have hport := congrArg State.port hstate
  have hjournal := congrArg State.journal hstate
  have hwindow := congrArg State.window hstate
  have hsame : (s.freeSlot.scanned words).lanes = s.lanes := rfl
  simp only [hsame] at hport hjournal hwindow hlanes
  refine ⟨(s.freeSlot.scanned words).cueTests, exec_of_completed hrst hslot horphan (.scan hk words), ?_⟩
  generalize (s.freeSlot.scanned words).cueTests = t at *
  refine ⟨?_, fun k => ?_, ?_, fun k => ?_, ?_⟩
  · rw [hstate]
    rfl
  · rw [hport]
    exact scanned_posted s.freeSlot words k
  · rw [hport]
    rfl
  · rw [hport]
    exact getLane_tabLane _ _
  intro ahead needs refusal halt
  have hahead : ∀ k, ahead k = cueDistance ((s.freeSlot.scanned words).laneEnv k).posted
      ((s.freeSlot.scanned words).laneEnv k).taken := fun k =>
    congrArg (fun p : Port => cueDistance (getLane p.posted k) (getLane s.port.taken k)) hport
  have hfar : ∀ k, needs k → 17 ≤ ahead k → _ := fun k hneeds hge =>
    cueTest_far (e := (s.freeSlot.scanned words).laneEnv k) hneeds (hahead k ▸ hge)
  have hquiet : ∀ k, (needs k → ahead k ≤ 16) → _ := fun k hle =>
    cueTest_quiet (e := (s.freeSlot.scanned words).laneEnv k) (l := getLane s.lanes k) (hahead k ▸ hle)
  have hposted : ∀ k, ∀ r ∈ (cueTest ((s.freeSlot.scanned words).laneEnv k) (getLane s.lanes k)).records,
      posted s t r = true := fun k r hr => by
    rw [posted_iff, hjournal]
    exact postAll_journalHolds _ _ r (List.mem_flatMap.2 ⟨k, mem_allLanes k, hr⟩)
  refine ⟨fun hnone => ⟨?_, ?_⟩, ?_, fun r hr => ?_, fun k => ⟨fun hidle => ?_, fun hneeds hstop hlow hhigh => ?_,
    fun hneeds hge => ⟨?_, fun hstate => ?_, fun hstate => ?_⟩⟩⟩
  · rw [hjournal, List.flatMap_eq_nil_iff.2 fun k _ => (hquiet k (hnone k)).1]
    rfl
  · rw [hwindow, List.any_eq_false.2 fun k _ => Bool.not_eq_true _ ▸ (hquiet k (hnone k)).2]
    rfl
  · rintro ⟨k, hneeds, hge⟩
    rw [hwindow, List.any_eq_true.2 ⟨k, mem_allLanes k, (hfar k hneeds hge).1⟩]
    rfl
  · rw [hjournal] at hr
    refine (mem_queue_postAll hr).imp_right fun hnew => ?_
    obtain ⟨k, -, hk⟩ := List.mem_flatMap.1 hnew
    by_cases hrefused : needs k ∧ 17 ≤ ahead k
    · obtain ⟨-, hcurrent, hnext⟩ := hfar k hrefused.1 hrefused.2
      refine ⟨k, hrefused.1, hrefused.2, ?_⟩
      by_cases hstate : (getLane s.lanes k).state = .idle
      · rw [(hcurrent hstate).2] at hk
        obtain rfl | hk := List.mem_cons.1 hk
        · exact .inl rfl
        · exact .inr ⟨hstate, List.mem_singleton.1 hk⟩
      · rw [(hnext hstate).2] at hk
        exact .inl (List.mem_singleton.1 hk)
    · rw [(hquiet k fun hneeds => by by_contra hge; exact hrefused ⟨hneeds, by omega⟩).1] at hk
      cases hk
  · rw [hlanes, cueTest_idle (hahead k ▸ hidle)]
  · rw [hlanes, (cueTest_of_needs hneeds.1 hneeds.2).2.1 (hahead k ▸ hlow) (hahead k ▸ hhigh)]
    obtain ⟨-, hidle, hheld⟩ := Lane.requestCue_spec (getLane s.lanes k)
    by_cases hstate : (getLane s.lanes k).state = .idle
    · refine ⟨congrArg Lane.request (hidle hstop hstate), fun _ => congrArg Lane.state (hidle hstop hstate),
        fun hne => absurd hstate hne⟩
    · exact ⟨congrArg Lane.request (hheld hstop hstate), fun h => absurd h hstate, fun _ => hheld hstop hstate⟩
  · by_cases hstate : (getLane s.lanes k).state = .idle
    · exact hposted k _ (((hfar k hneeds hge).2.1 hstate).2 ▸ List.mem_cons_self ..)
    · exact hposted k _ (((hfar k hneeds hge).2.2 hstate).2 ▸ List.mem_cons_self ..)
  · obtain ⟨hlane, hrecords⟩ := (hfar k hneeds hge).2.1 hstate
    rw [hlanes]
    exact ⟨congrArg Lane.state hlane, congrArg Lane.pendingStop hlane,
      hposted k _ (hrecords ▸ List.mem_cons_of_mem _ (List.mem_singleton_self _))⟩
  · rw [hlanes]
    exact ((hfar k hneeds hge).2.2 hstate).1

end Sys2Proof.Machine
end

section
/-! ### The blocks at a sample event

What a sample event at which no transaction reaches the wait limit makes of the Plan Port's slot, the link, the relays,
the measurement and the timebase. -/

namespace Sys2Proof.Machine

/-! #### The fetch in flight of a lane released, halted or stopped (R17) -/

theorem cueTest_discards (e : LaneEnv) (l : Lane) : (cueTest e l).discards = false := by
  unfold cueTest refuse
  repeat' split
  all_goals rfl

theorem actOnNextSlot_discards (e : LaneEnv) (l : Lane) : (actOnNextSlot e l).discards = false := by
  unfold actOnNextSlot
  dsimp only
  split
  · rw [becomeCurrent_eq]
    split
    · rfl
    · exact cueTest_discards _ _
  · rfl
  · exact cueTest_discards _ _
  · rfl

theorem endApplication_discards (e : SampleEnv) (ep : Episode) (l : Lane) : (endApplication e ep l).discards = false := by
  unfold endApplication
  dsimp only [LaneOut.andThen]
  split
  · split <;> rfl
  · rw [actOnNextSlot_discards]; rfl

theorem fire_discards (e : SampleEnv) (ep : Episode) (l : Lane) : (fire e ep l).discards = false := by
  unfold fire
  dsimp only [LaneOut.andThen]
  split
  · rfl
  · rw [endApplication_discards]; rfl

theorem ownWork_discards (e : SampleEnv) (l : Lane) : (ownWork e l).discards = false := by
  unfold ownWork
  split
  · unfold waitingWork
    dsimp only
    split
    · split
      · rfl
      · split
        · exact fire_discards _ _ _
        · rfl
    · rfl
  · unfold activeWork
    dsimp only
    split
    · exact endApplication_discards _ _ _
    · split
      · unfold Lane.flickerStep; split <;> rfl
      · rfl
  · unfold gapWork
    dsimp only
    split <;> rfl
  · rfl

section
variable (i : SampleInputs) (s : State)

theorem laneWork_discards (hcount : 1 ≤ s.measure.tripCount) (k : LaneId) :
    (laneWork (envOf i s k) (getLane s.lanes k)).discards = s.discardsDue i k := by
  rw [laneWork_eq, settledWork_protection i s hcount]
  have hstate := (takenLane_kept i s k).1
  have hstop : (takenLane i s k).pendingStop = (getLane s.lanes k).pendingStop := (takenLane_kept i s k).2.2.2.2.1
  unfold State.discardsDue
  dsimp only
  cases s.unprotected i with
  | false =>
    unfold protectWork
    rw [hstate]
    by_cases hhalted : (getLane s.lanes k).state = .halted <;> simp [hhalted]
  | true =>
    cases s.releaseDue with
    | true =>
      unfold releaseWork
      rw [hstate]
      by_cases hhalted : (getLane s.lanes k).state = .halted <;> cases hpending : (getLane s.lanes k).pendingStop <;>
        simp [hhalted, LaneOut.andThen, hstop, hpending, stopWork, Lane.emptied]
    | false =>
      rw [hstop]
      cases (getLane s.lanes k).pendingStop <;> simp [stopWork, ownWork_discards]

/-- A lane stops wanting its fetches where it is released, halted or stopped, and nowhere else (R17). -/
theorem outsOf_discards (hcount : 1 ≤ s.measure.tripCount) (k : LaneId) :
    (getLane (outsOf i s) k).discards = s.discardsDue i k := by
  refine lanesWork_induction (fun k o => o.discards = s.discardsDue i k) (tabLane (envOf i s)) s.lanes ?_ ?_ ?_ k
  · intro k
    rw [getLane_tabLane]
    exact laneWork_discards i s hcount k
  · intro k o ep ho _ _ _
    dsimp only [LaneOut.andThen]
    rw [fire_discards, Bool.or_false]
    exact ho
  · exact fun _ _ ho => ho

theorem finalWork_slot : (finalWork i s).state.port.slot = s.port.slot.map fun tr =>
    { tr with timer := tr.timer + 1, kind := tr.kind.unwanted fun k => (getLane (outsOf i s) k).discards } := by
  have hslot : (measuredWork i s).state.port.slot = s.port.slot.map fun tr => { tr with timer := tr.timer + 1 } := by
    rw [measuredWork_port]
    split
    · rw [requestScan_slot]; rfl
    · rfl
  rw [finalWork_port]
  unfold Port.discardFetches
  dsimp only
  rw [hslot, Option.map_map]
  rfl

theorem finalWork_slotDue (hcount : 1 ≤ s.measure.tripCount) : (finalWork i s).state.port.slot = s.slotDue i := by
  rw [finalWork_slot, State.slotDue]
  congr
  funext tr
  rw [show (fun k => (getLane (outsOf i s) k).discards) = s.discardsDue i from funext (outsOf_discards i s hcount)]

end

/-! #### The marker (R124) -/

/-- Settles O50, by the equations of the marker's work at a sample event, expiry or none. -/
theorem markerPulsesLastFourSamples : Obligations.MarkerPulsesLastFourSamples := by
  unfold Obligations.MarkerPulsesLastFourSamples
  intro i s hrst
  obtain ⟨w, hbefore, hlink, hsub⟩ := sampleWork_link i s hrst
  have hafter : (sampleWork i s).state.link.markerRequest2 = s.link.markerRequest1 ∧
      (sampleWork i s).state.link.marker = (if s.link.markerRequest2 then true else
        s.link.marker && decide (1 < s.link.markerCount)) ∧
      (sampleWork i s).state.link.markerCount = (if s.link.markerRequest2 then 4 else s.link.markerCount - 1) := by
    rw [hlink]
    simp only [Work.output, hbefore]
    exact ⟨rfl, rfl, rfl⟩
  obtain ⟨hrequest, hmarker, hcount⟩ := hafter
  refine ⟨(sampleWork i s).state, by simp [exec, execSampleEvent], hrequest, ?_, ?_, ?_⟩
  · intro hdue
    rw [hmarker, hcount, hdue]
    refine ⟨sampleRow_of_happened _ i s (hsub ?_), rfl, rfl⟩
    simp [Work.output, hbefore, Link.sampleLines, mem_happens, hdue]
  · intro hidle hone
    rw [hmarker, hcount, hidle, hone]
    refine ⟨sampleRow_of_happened _ i s (hsub ?_), by simp, rfl⟩
    simp [Work.output, hbefore, Link.sampleLines, Link.markerEnds, mem_happens, hidle, hone]
  · intro hidle htwo
    rw [hmarker, hcount, hidle]
    refine ⟨by simp; omega, by simp; omega⟩

/-! #### The relays (R126, R128 to R130) -/

theorem finalWork_relay (i : SampleInputs) (s : State) (x : Phase) :
    getPhase (finalWork i s).state.relays.relay x =
      if present s.control.mode x then
        (getPhase s.relays.relay x).advance.command (getPhase (finalWork i s).state.composer.closeCommand x)
          (settledWork i s).protection s.relays.closeTime s.relays.openTime
      else getPhase s.relays.relay x := by
  rw [finalWork_relays]
  simp only [Relays.command, Relays.advance, getPhase_tabPhase]
  split <;> simp_all

/-- Settles O48: the relay advances and then takes its command, case by case on the state it stands in. -/
theorem relaysFollowTheirCommands : Obligations.RelaysFollowTheirCommands := by
  unfold Obligations.RelaysFollowTheirCommands
  intro x i s hrst hquiet hcount
  refine ⟨_, event_eq i s hrst hquiet, ?_⟩
  have hrelay := finalWork_relay i s x
  have hprotection := settledWork_protection i s hcount
  dsimp only
  refine ⟨fun habsent => by rw [hrelay, habsent]; rfl, fun hpresent => ?_⟩
  rw [hrelay, if_pos hpresent]
  have hrow : (getPhase s.relays.relay x).completes = true →
      exec (.relayOperationComplete x i) s = .next (finalWork i s).state := fun hdone =>
    row_eq i s _ hrst hquiet (mem_P2_relay i s x hpresent hdone)
  generalize getPhase (finalWork i s).state.composer.closeCommand x = close at *
  generalize (settledWork i s).protection = protection at *
  generalize getPhase s.relays.relay x = r at *
  obtain ⟨state, remaining, span⟩ := r
  refine ⟨?_, ?_, ?_, ?_, ?_, ?_, ?_⟩
  · rintro rfl
    cases close <;> rfl
  · rintro rfl
    cases close <;> rfl
  · rintro rfl hdone
    replace hdone : remaining ≤ 1 := hdone
    refine ⟨hrow (by simp [Relay.completes, hdone]), ?_⟩
    have hzero : remaining - 1 = 0 := by omega
    simp only [Relay.advance, hdone, if_true, hzero, Relay.command]
    rfl
  · rintro rfl hruns hsafe
    replace hruns : ¬ remaining ≤ 1 := Nat.not_le.2 hruns
    rw [hsafe] at hprotection
    simp [Relay.advance, hruns, Relay.command, hprotection]
  · rintro rfl hruns hunsafe
    replace hruns : ¬ remaining ≤ 1 := Nat.not_le.2 hruns
    rw [hunsafe] at hprotection
    simp [Relay.advance, hruns, Relay.command, hprotection, Relay.beginOpening]
  · rintro rfl hdone
    replace hdone : remaining ≤ 1 := hdone
    refine ⟨hrow (by simp [Relay.completes, hdone]), ?_⟩
    have hzero : remaining - 1 = 0 := by omega
    simp only [Relay.advance, hdone, if_true, hzero, Relay.command]
  · rintro rfl hruns
    replace hruns : ¬ remaining ≤ 1 := Nat.not_le.2 hruns
    simp [Relay.advance, hruns, Relay.command]

/-! #### The cycle summary (R140) -/

theorem settledWork_measureRecords (i : SampleInputs) (s : State) :
    (settledWork i s).measureRecords = (measuredWork i s).measureRecords := by
  unfold settledWork Work.protect Work.act
  split <;> rfl

theorem measuredWork_measureRecords (i : SampleInputs) (s : State) {r : Record}
    (hr : r ∈ (((openedWork s).sampleLines i).measure).measureRecords) : r ∈ (measuredWork i s).measureRecords := by
  unfold measuredWork Work.cycleScan
  split <;> exact hr

theorem restart_none_of_cycleStart {s : State} (hcycle : s.cycleStartDue = true) : s.timebase.restartDue = .none := by
  unfold State.cycleStartDue at hcycle
  simp only [Bool.and_eq_true, beq_iff_eq] at hcycle
  exact hcycle.1

/-- The measurement of a sample event, before the summary is judged. -/
def State.measured (s : State) : Measure :=
  s.measure.sample s.control.mode s.openedState.live s.cycleStartDue (decide (s.timebase.restartDue ≠ .none))
    s.synth.cycleClips

theorem measured_of_cycleStart {s : State} (hcycle : s.cycleStartDue = true) :
    s.measured.summaryPeriod = s.measure.summaryPeriod ∧ s.measured.summaryCounter = s.measure.summaryCounter ∧
      s.measured.figures = s.measure.closing s.synth.cycleClips := by
  simp [State.measured, hcycle, restart_none_of_cycleStart hcycle, Measure.sample, Measure.atSample, Measure.cleared]

/-- A summary that is due comes about and is posted with the delivered figures (R140). -/
theorem summary_posted {i : SampleInputs} {s : State} (hcycle : s.cycleStartDue = true)
    (hdue : s.measured.summaryDue (decide (s.openedState = .running)) = true) :
    .cycleSummary ∈ (finalWork i s).happened ∧
      posted s (finalWork i s).state (summaryRecord (s.timebase.tick s.control.mode) s.measured.figures) = true := by
  have hmeasured : Measure.sample ((openedWork s).sampleLines i).state.measure ((openedWork s).sampleLines i).state.control.mode
      ((openedWork s).sampleLines i).opened.live ((openedWork s).sampleLines i).cycleStart
      ((openedWork s).sampleLines i).restart ((openedWork s).sampleLines i).state.synth.cycleClips = s.measured := by
    simp [State.measured, Work.sampleLines]
  constructor
  · apply finalWork_happened_measuredWork
    rw [measuredWork, cycleScan_happened]
    simp only [Work.measure, hmeasured]
    simp [hcycle, hdue, mem_happens]
  · apply posted_measure
    rw [settledWork_measureRecords]
    apply measuredWork_measureRecords
    simp only [Work.measure, hmeasured]
    simp [hcycle, hdue]

/-- Settles O49: the summary is judged on the measurement of the sample, whose counter is that of the state before. -/
theorem cycleSummaryIsPosted : Obligations.CycleSummaryIsPosted := by
  unfold Obligations.CycleSummaryIsPosted
  intro i s hrst hquiet hcycle
  refine ⟨_, event_eq i s hrst hquiet, ?_⟩
  obtain ⟨hperiod, hcounter, hfigures⟩ := measured_of_cycleStart hcycle
  have hmeasure : (finalWork i s).state.measure = s.measured.afterSummary true (decide (s.openedState = .running)) := by
    rw [← hcycle]; exact finalWork_measure i s
  refine ⟨fun hrunning hone hreached => ?_, fun hrunning hshort => ?_, fun hother => ?_⟩
  · have hdue : s.measured.summaryDue (decide (s.openedState = .running)) = true := by
      simp [Measure.summaryDue, hrunning, hperiod, hcounter, hone, hreached]
    obtain ⟨hhappened, hposted⟩ := summary_posted (i := i) hcycle hdue
    refine ⟨row_eq i s _ hrst hquiet hhappened, by simp [hmeasure, Measure.afterSummary, hdue], ?_⟩
    unfold summaryRecord at hposted
    rw [formRecord_eq i] at hposted
    have hdelivered : (finalWork i s).state.measure.figures = s.measure.closing s.synth.cycleClips := by
      rw [hmeasure, Measure.afterSummary_figures, hfigures]
    rw [hdelivered]
    rw [hfigures] at hposted
    exact hposted
  · have hnotDue : s.measured.summaryDue true = false := by
      simp [Measure.summaryDue, hperiod, hcounter]; omega
    have hperiod' : s.measure.summaryPeriod ≠ 0 := by omega
    simp [hmeasure, Measure.afterSummary, hnotDue, Measure.countSummary, hrunning, hperiod, hcounter, hperiod']
  · simp [hmeasure, Measure.afterSummary, Measure.countSummary, hother]

end Sys2Proof.Machine
end

section
/-! ### The drive link, the timebase and the measurement at a sample event -/

namespace Sys2Proof.Machine

/-! #### The drive link (R112, R115, R116, R118 to R121) -/

theorem toInt_driveWord {code : Int} (hlow : -524288 ≤ code) (hhigh : code ≤ 524287) : (driveWord code).toInt = code := by
  unfold driveWord
  rw [BitVec.toInt_signExtend_of_le (by omega), BitVec.toInt_ofInt, bmod_twenty_bits code hlow hhigh]

theorem silent_of_mem {engine : EngineState}
    (h : engine ∈ [EngineState.standby, .loading, .closing, .tripped, .faulted]) : engine.silent = true := by
  revert h
  cases engine <;> decide

section
variable (i : SampleInputs) (s : State)

/-- The frame formed at the sample event (R118). -/
def frameOf : PerPhase Int := tabPhase fun x => (getPhase (codesOf i (settledWork i s)) x).1

/-- Whether the sample event shifts zeros (R121). -/
def shiftsZeros : Bool :=
  decide ((finalWork i s).state.control.engine = .tripped) || decide ((finalWork i s).state.control.engine = .faulted)

theorem finalWork_link_eq : (finalWork i s).state.link =
    ((s.link.sampleLines i.ready i.fault).sendFrame (shiftsZeros i s) (frameOf i s)).runMarker
      (lanedWork i (settledWork i s)).markerRequest := by
  rw [finalWork_link, perform_link, settledWork_link, shiftsZeros, frameOf, finalWork_engine]

theorem frameOf_bounds (x : Phase) :
    -(s.synth.ceiling : Int) ≤ getPhase (frameOf i s) x ∧ getPhase (frameOf i s) x ≤ s.synth.ceiling ∧
      (present s.control.mode x = false → getPhase (frameOf i s) x = 0) ∧
      ((finalWork i s).state.control.engine.silent = true → getPhase (frameOf i s) x = 0) := by
  rw [finalWork_engine]
  have hceiling : (composedWork i (settledWork i s)).state.synth.ceiling = s.synth.ceiling := by
    rw [composedWork_synth, settledWork_synth, measuredWork_synth]
  simp only [frameOf, codesOf, Synth.codes, getPhase_tabPhase, composedWork_control, settledWork_mode, ← hceiling]
  exact code_bounds _ _ _ _ _ _ _ _

/-- The buffer written last and the one kept, as the link's frame work leaves them (R120). -/
theorem sendFrame_buffers (lk : Link) (zeros : Bool) (frame : PerPhase Int) :
    (if lk.writesBuffer1 then (lk.sendFrame zeros frame).buffer1 else (lk.sendFrame zeros frame).buffer0) = frame ∧
      (if lk.writesBuffer1 then (lk.sendFrame zeros frame).buffer0 else (lk.sendFrame zeros frame).buffer1) =
        (if lk.writesBuffer1 then lk.buffer0 else lk.buffer1) := by
  unfold Link.sendFrame
  cases hbuffer : lk.writesBuffer1 <;> exact ⟨rfl, rfl⟩

theorem finalWork_buffers :
    (if s.link.writesBuffer1 then (finalWork i s).state.link.buffer1 else (finalWork i s).state.link.buffer0) = frameOf i s ∧
      (if s.link.writesBuffer1 then (finalWork i s).state.link.buffer0 else (finalWork i s).state.link.buffer1) =
        (if s.link.writesBuffer1 then s.link.buffer0 else s.link.buffer1) := by
  rw [finalWork_link_eq]
  exact sendFrame_buffers (s.link.sampleLines i.ready i.fault) (shiftsZeros i s) (frameOf i s)

theorem finalWork_shifting : (finalWork i s).state.link.shifting =
    some (driveWords (if shiftsZeros i s then perPhase 0 else
      if s.link.writesBuffer1 then s.link.buffer0 else s.link.buffer1)) := by
  rw [finalWork_link_eq]
  rfl

theorem shiftsZeros_iff : shiftsZeros i s = true ↔ (finalWork i s).state.control.engine = .tripped ∨
    (finalWork i s).state.control.engine = .faulted := by simp [shiftsZeros]

/-- Settles O32, by what the link's frame work leaves in each buffer and in the shift register. -/
theorem driveLinkSendsTheFrameBefore : Obligations.DriveLinkSendsTheFrameBefore := by
  unfold Obligations.DriveLinkSendsTheFrameBefore
  intro i s hrst hquiet
  refine ⟨_, event_eq i s hrst hquiet, by rw [finalWork_link_eq]; rfl, fun ws hws => ?_, by rw [finalWork_link_eq]; rfl,
    ?_⟩
  · rw [finalWork_link_eq]
    exact (show s.link.shifting.or s.link.strobed = some ws by rw [hws]; rfl)
  obtain ⟨hformed, hkept⟩ := finalWork_buffers i s
  dsimp only
  rw [hformed, hkept]
  refine ⟨rfl, ⟨_, finalWork_shifting i s, fun hstopped x => ?_, fun htripped hfaulted x hlow hhigh => ?_⟩, fun x => ?_⟩
  · rw [if_pos ((shiftsZeros_iff i s).2 hstopped)]
    simp only [driveWords, getPhase_tabPhase, getPhase_perPhase]
    rfl
  · have hruns : ¬ shiftsZeros i s = true := by simp [shiftsZeros_iff, htripped, hfaulted]
    rw [if_neg hruns]
    simp only [driveWords, getPhase_tabPhase]
    exact toInt_driveWord hlow hhigh
  · obtain ⟨hlow, hhigh, habsent, hsilent⟩ := frameOf_bounds i s x
    exact ⟨hlow, hhigh, habsent, fun hmem => hsilent (silent_of_mem hmem)⟩

end

end Sys2Proof.Machine
end

section
/-! ### A plain sample event, a cycle start and a restart -/

namespace Sys2Proof.Machine

section
variable (i : SampleInputs) (s : State)

theorem finalWork_rstLow : (finalWork i s).state.rstLow = s.rstLow := by
  simp [finalWork, perform_composedWork, composedWork, lanedWork]

theorem finalWork_pending (hrst : s.rstLow = false) (hquiet : s.noExpiry = true) :
    (finalWork i s).state.pending = s.pending := by
  rw [← sampleWork_finalWork i s hrst hquiet, sampleWork_pending]

/-- The lines, the mode and the release mark of the controller after a sample event (R123, R154, R157). -/
theorem finalWork_controlLines : (finalWork i s).state.control.previousFault = i.fault ∧
    (finalWork i s).state.control.mode = s.control.mode ∧ (finalWork i s).state.control.pendingRelease = false := by
  rw [finalWork_control, settledWork_control]
  exact ⟨rfl, openedWork_mode s, openedWork_pendingRelease s⟩

theorem finalWork_statusLines : (finalWork i s).state.link.ready = i.ready ∧ (finalWork i s).state.link.fault = i.fault := by
  rw [finalWork_link_eq]
  exact ⟨rfl, rfl⟩

/-- Where no scan is requested the port keeps all but its slot (R15). -/
theorem finalWork_port_kept (hscan : (s.cycleStartDue && s.openedState.scans) = false) :
    (finalWork i s).state.port = { s.port with slot := (finalWork i s).state.port.slot } := by
  rw [finalWork_port, measuredWork_port, hscan]
  rfl

/-- A cycle start in SOFTSTART, RUNNING and RELEASING requests a scan, which merges with one in flight (R5). -/
theorem finalWork_scanRequest (hscan : (s.cycleStartDue && s.openedState.scans) = true)
    (hflight : ∀ tr, s.port.slot = some tr → tr.kind = .scan → tr.orphan = true) :
    (finalWork i s).state.port.scanRequest = true := by
  rw [finalWork_port, measuredWork_port, hscan, if_pos rfl, requestScan_of_no_scan]
  · rfl
  · intro tr hslot hkind
    obtain ⟨tr', hslot', rfl⟩ := Option.map_eq_some_iff.1
      (show (s.port.slot.map fun t => { t with timer := t.timer + 1 }) = some tr from hslot)
    exact hflight tr' hslot' hkind

theorem finalWork_settings : (finalWork i s).state.synth.peak = s.synth.peak ∧
    (finalWork i s).state.synth.ceiling = s.synth.ceiling ∧
    (finalWork i s).state.relays.closeTime = s.relays.closeTime ∧
    (finalWork i s).state.relays.openTime = s.relays.openTime := by
  rw [finalWork_synth, measuredWork_synth, finalWork_relays]
  exact ⟨rfl, rfl, rfl, rfl⟩

theorem tick_of_no_cycle (hrestart : s.timebase.restartDue = .none) (hcycle : s.cycleStartDue = false) :
    s.timebase.tick s.control.mode =
      { s.timebase with
        theta := s.timebase.theta + BitVec.ofNat 32 s.timebase.increment
        previous := s.timebase.theta, sample := s.timebase.sample + 1 } := by
  have hwraps : s.timebase.wraps = false := hcycle
  simp [Timebase.tick, hrestart, Timebase.advance, hwraps]

end

/-- Settles O31, block by block: no wrap and no restart leave the plain advance of each. -/
theorem sampleEventAdvancesEveryBlock : Obligations.SampleEventAdvancesEveryBlock := by
  unfold Obligations.SampleEventAdvancesEveryBlock
  intro i s hrst hrestart hangle hquiet
  have hcycle : s.cycleStartDue = false := by rw [wraps_none s hrestart]; simpa using hangle
  refine ⟨_, event_eq i s hrst hquiet, (finalWork_rstLow i s).trans hrst, finalWork_pending i s hrst hquiet, ?_⟩
  obtain ⟨hpreviousFault, hmode, hpendingRelease⟩ := finalWork_controlLines i s
  obtain ⟨hready, hfault⟩ := finalWork_statusLines i s
  obtain ⟨hpeak, hceiling, hclose, hopen⟩ := finalWork_settings i s
  obtain ⟨hsteady, hsoft, hrelease⟩ := finalWork_composer_kept i s
  have hmeasure := finalWork_measure i s
  obtain ⟨hcount, hcode, hgood, hholder, hperiod, hfloor, hlive, -, -⟩ := measured_facts s.measure s.control.mode
    s.openedState.live s.cycleStartDue (decide (s.timebase.restartDue ≠ .none)) s.synth.cycleClips
    (decide (s.openedState = .running))
  have hsums := fun x => measure_sums s.measure s.control.mode
    s.openedState.live s.cycleStartDue (decide (s.timebase.restartDue ≠ .none)) s.synth.cycleClips
    (decide (s.openedState = .running)) x
  rw [← hmeasure] at hcount hcode hgood hholder hperiod hfloor hlive hsums
  have hnone : decide (s.timebase.restartDue ≠ .none) = false := by simp [hrestart]
  simp only [hcycle, hnone, Bool.or_self, if_false, Bool.false_eq_true] at hsums
  obtain ⟨-, -, -, hsamples, hstale, hfigures⟩ := hsums .A
  refine ⟨?_, ?_, ?_, ?_, fun h => finalWork_slotDue i s h, finalWork_previousTrig i s, hready, hfault, hpreviousFault, hmode,
    hpendingRelease, finalWork_fault i s, (finalWork_window i s).1.symm, hholder, hgood, hsamples, hstale, hlive,
    fun x => ⟨(hsums x).1, (hsums x).2.1, (hsums x).2.2.1⟩, hfigures, ?_, hcode, hcount, hperiod, hfloor, hsteady, hsoft,
    hrelease, hpeak, hceiling, hclose, hopen⟩
  · rw [finalWork_timebase, hcycle]
    exact tick_of_no_cycle s hrestart hcycle
  · exact finalWork_port_kept i s (by rw [hcycle, Bool.false_and])
  · intro hidle
    rw [finalWork_slot, hidle]; rfl
  · intro tr htr
    rw [finalWork_slot, htr]
    exact ⟨_, rfl⟩
  · rw [hmeasure, hcycle, hnone]
    simp [Measure.sample, Measure.afterSummary, Measure.atSample]

/-! #### The cycle start (R89 to R91, R94, R95) -/

section
variable (i : SampleInputs) (s : State)

theorem tick_of_cycle (hcycle : s.cycleStartDue = true) :
    s.timebase.tick s.control.mode =
      { s.timebase with
        theta := s.timebase.theta + BitVec.ofNat 32 s.timebase.increment
        previous := s.timebase.theta, cycle := s.timebase.cycle + 1, sample := 0 } := by
  have hwraps : s.timebase.wraps = true := hcycle
  simp [Timebase.tick, restart_none_of_cycleStart hcycle, Timebase.advance, hwraps]

/-- The figures that a cycle start delivers and the accumulators that begin with its sample (R137 to R139). -/
theorem finalWork_figures_of_cycle (hcycle : s.cycleStartDue = true) (x : Phase) :
    let m := (finalWork i s).state.measure
    m.figures = s.measure.closing s.synth.cycleClips ∧
      getPhase m.sumV x = (getPhase s.sampleCodes.v x).natAbs ^ 2 ∧
      getPhase m.sumI x = (getPhase s.sampleCodes.i x).natAbs ^ 2 ∧
      getPhase m.peakI x = (getPhase s.sampleCodes.i x).natAbs ∧ m.count = 1 ∧
      m.cycleStale = (if s.measure.holder.isNone then 1 else 0) := by
  have hrestart : decide (s.timebase.restartDue ≠ .none) = false := by simp [restart_none_of_cycleStart hcycle]
  have hsums := measure_sums s.measure s.control.mode s.openedState.live s.cycleStartDue
    (decide (s.timebase.restartDue ≠ .none)) s.synth.cycleClips (decide (s.openedState = .running)) x
  rw [← finalWork_measure i s] at hsums
  rw [hcycle, hrestart] at hsums
  obtain ⟨hsumV, hsumI, hpeak, hcount, hstale, hfigures⟩ := hsums
  rw [show s.measure.holder.getD s.measure.lastGood = s.sampleCodes from rfl] at hsumV hsumI hpeak
  exact ⟨hfigures, by simpa using hsumV, by simpa using hsumI, by simpa using hpeak, by simpa using hcount,
    by simpa using hstale⟩

end

/-- Settles O33: the tick wraps, the frequency rule runs, and the figures of the cycle are delivered. -/
theorem cycleStartBeginsACycle : Obligations.CycleStartBeginsACycle := by
  unfold Obligations.CycleStartBeginsACycle
  intro i s hrst hcycle hquiet
  refine ⟨_, row_eq i s _ hrst hquiet (has_happens_tick i s hcycle), event_eq i s hrst hquiet, ?_⟩
  have htimebase := finalWork_timebase i s
  rw [hcycle, if_pos rfl, tick_of_cycle s hcycle] at htimebase
  have hfigures := finalWork_figures_of_cycle i s hcycle
  obtain ⟨hdelivered, -, -, -, hcount, hstale⟩ := hfigures .A
  refine ⟨?_, ?_, ?_, ?_, fun x => ⟨?_, ?_, ?_, ?_, ?_, ?_, ?_, ?_⟩, ?_, hcount, hstale, ?_, ?_,
    fun h => finalWork_slotDue i s h⟩
  · rw [htimebase]
    rfl
  · intro target slew howner
    rw [htimebase, howner]
    rfl
  · intro hfree
    rw [htimebase, hfree]
    rfl
  · rw [htimebase]
    exact incrementOf_eq _
  · intro hsmall
    rw [hdelivered]
    simp only [Measure.closing, getPhase_tabPhase]
    exact isqrt_eq _ hsmall
  · intro hsmall
    rw [hdelivered]
    simp only [Measure.closing, getPhase_tabPhase]
    exact isqrt_eq _ hsmall
  · rw [hdelivered]; rfl
  · rw [hdelivered]; rfl
  · exact (hfigures x).2.1
  · exact (hfigures x).2.2.1
  · exact (hfigures x).2.2.2.1
  · exact clips_le i s x (by simp [hcycle])
  · rw [hdelivered]; rfl
  · intro hstate hflight
    refine finalWork_scanRequest i s ?_ hflight
    obtain h | h | h := hstate <;> simp [hcycle, h, EngineState.scans]
  · intro hsoft hrunning hreleasing
    have hscan : s.openedState.scans = false := by
      cases hopened : s.openedState <;> first | rfl | contradiction
    rw [finalWork_port_kept i s (by rw [hscan, Bool.and_false])]

/-! #### The restart (R87, R92, R93, R96) -/

theorem restart_happened (i : SampleInputs) {s : State} (hdue : s.timebase.restartDue ≠ .none) :
    .restart ∈ (finalWork i s).happened := by
  apply finalWork_happened_tickedWork
  simp [tickedWork, Work.waitTimer, Work.tick, mem_happens, hdue]

theorem sampleRow_of_not_happened (h : Happening) (i : SampleInputs) (s : State)
    (hnot : h ∉ (sampleWork i s).happened) : sampleRow h i s = .next s := by
  simp [sampleRow, hnot]

theorem tick_of_restart (s : State) (hdue : s.timebase.restartDue ≠ .none) :
    s.timebase.tick s.control.mode =
      { s.timebase with
        theta := 0, previous := 0, cycle := 0, sample := 0, restartDue := .none
        offsets := if s.timebase.restartDue = .afterLoad then
            offsetsOf s.control.mode s.timebase.latchedOffsetB s.timebase.latchedOffsetC
          else resetOffsets s.control.mode
        frequency := if s.timebase.restartDue = .afterLoad then s.timebase.latchedNominal else 50000
        nominal := if s.timebase.restartDue = .afterLoad then s.timebase.latchedNominal else 50000
        returnSlew := if s.timebase.restartDue = .afterLoad then s.timebase.latchedSlew else 0
        increment := ((if s.timebase.restartDue = .afterLoad then s.timebase.latchedNominal else 50000) * 2 ^ 33 +
          25600000) / 51200000 } := by
  unfold Timebase.tick Timebase.restart
  rw [if_neg hdue]
  cases hkind : s.timebase.restartDue with
  | none => exact absurd hkind hdue
  | afterReset => simp [incrementOf_eq]
  | afterLoad => simp [incrementOf_eq]

/-- The nominal offsets of each mode (R96). -/
theorem offsetsOf_mode (mode : BitVec 2) (b c : Nat) :
    getPhase (offsetsOf mode b c) .A = 0 ∧ (mode = 1 → getPhase (offsetsOf mode b c) .B = 0x80000000) ∧
      (mode = 2 → getPhase (offsetsOf mode b c) .B = 2863311531 ∧ getPhase (offsetsOf mode b c) .C = 1431655765) ∧
      (mode = 3 → getPhase (offsetsOf mode b c) .B = BitVec.ofNat 32 (b * 2 ^ 32 / 3600) ∧
        getPhase (offsetsOf mode b c) .C = BitVec.ofNat 32 (c * 2 ^ 32 / 3600)) := by
  unfold offsetsOf resetOffsets
  refine ⟨?_, ?_, ?_, ?_⟩
  · repeat' split
    all_goals rfl
  · rintro rfl; rfl
  · rintro rfl; exact ⟨rfl, rfl⟩
  · rintro rfl; exact ⟨rfl, rfl⟩

theorem offsetsOf_zero (mode : BitVec 2) : offsetsOf mode 0 0 = resetOffsets mode := by
  unfold offsetsOf
  split
  next h => subst h; rfl
  next => rfl

/-- The figures and accumulators with which cycle 0 begins (R137, R139, R140). -/
theorem finalWork_figures_of_restart (i : SampleInputs) {s : State} (hdue : s.timebase.restartDue ≠ .none) (x : Phase) :
    let m := (finalWork i s).state.measure
    m.figures = Figures.zero ∧ m.summaryCounter = 0 ∧
      getPhase m.sumV x = (getPhase s.sampleCodes.v x).natAbs ^ 2 ∧
      getPhase m.sumI x = (getPhase s.sampleCodes.i x).natAbs ^ 2 ∧ m.count = 1 := by
  have hrestart : decide (s.timebase.restartDue ≠ .none) = true := by simp [hdue]
  have hcycle : s.cycleStartDue = false := by simp [State.cycleStartDue, hdue]
  have hsums := measure_sums s.measure s.control.mode s.openedState.live s.cycleStartDue
    (decide (s.timebase.restartDue ≠ .none)) s.synth.cycleClips (decide (s.openedState = .running)) x
  rw [← finalWork_measure i s, hrestart, hcycle] at hsums
  obtain ⟨hsumV, hsumI, -, hcount, -, hfigures⟩ := hsums
  rw [show s.measure.holder.getD s.measure.lastGood = s.sampleCodes from rfl] at hsumV hsumI
  refine ⟨hfigures, ?_, by simpa using hsumV, by simpa using hsumI, by simpa using hcount⟩
  rw [finalWork_measure, hrestart, hcycle]
  simp [Measure.sample, Measure.afterSummary, Measure.atSample]

/-- Settles O34: a restart due rules out a cycle start, and the tick takes the values of the load or of reset. -/
theorem restartBeginsCycleZero : Obligations.RestartBeginsCycleZero := by
  unfold Obligations.RestartBeginsCycleZero
  intro i s hrst hdue hquiet
  have hcycle : s.cycleStartDue = false := by simp [State.cycleStartDue, hdue]
  have htimebase := finalWork_timebase i s
  rw [hcycle, if_neg Bool.false_ne_true, tick_of_restart s hdue] at htimebase
  have hfigures := finalWork_figures_of_restart i hdue
  obtain ⟨hzero, hcounter, -, -, hcount⟩ := hfigures .A
  refine ⟨_, row_eq i s _ hrst hquiet (restart_happened i hdue), event_eq i s hrst hquiet, ?_, ?_, ?_, fun x => ?_, ?_, hcount,
    hcounter, ?_, fun h => finalWork_slotDue i s h⟩
  · refine sampleRow_of_not_happened _ i s ?_
    rw [sampleWork_finalWork i s hrst hquiet, cs_mem, hcycle]
    exact Bool.false_ne_true
  · rw [htimebase]
  · rw [htimebase]
    by_cases hload : s.timebase.restartDue = .afterLoad
    · simp only [if_pos hload]
      obtain ⟨hA, hB, hBC, hset⟩ := offsetsOf_mode s.control.mode s.timebase.latchedOffsetB s.timebase.latchedOffsetC
      exact ⟨hA, hB, hBC, fun hmode _ => hset hmode, fun _ hreset => by rw [hload] at hreset; cases hreset⟩
    · simp only [if_neg hload, ← offsetsOf_zero]
      obtain ⟨hA, hB, hBC, hset⟩ := offsetsOf_mode s.control.mode 0 0
      exact ⟨hA, hB, hBC, fun _ hafter => absurd hafter hload, fun hmode _ => hset hmode⟩
  · rw [hzero]
    obtain ⟨-, -, hsumV, hsumI, -⟩ := hfigures x
    exact ⟨getPhase_perPhase _ _, getPhase_perPhase _ _, getPhase_perPhase _ _, getPhase_perPhase _ _, hsumV, hsumI,
      clips_le i s x (by simp [hdue])⟩
  · rw [hzero]; rfl
  · rw [finalWork_port_kept i s (by rw [hcycle, Bool.false_and])]

end Sys2Proof.Machine
end

section
/-! ### The engine state and the progress at a sample event -/

namespace Sys2Proof.Machine

section
variable (i : SampleInputs) (s : State)

/-- The progress due after a sample event, by the engine state, the relays, the soft-start and the release ramp that it
leaves (R149, R152, R153, R155, R159). -/
theorem finalWork_progress : (finalWork i s).state.control.progress =
    match (finalWork i s).state.control.engine with
    | .closing => if allPresent s.control.mode (finalWork i s).state.relays .closed then .softstart else .none
    | .softstart =>
      if decide ((finalWork i s).state.composer.softLength ≤ (finalWork i s).state.composer.softAdvance * 3600 / 2 ^ 32)
        then .running else .none
    | .releasing =>
      if (finalWork i s).state.composer.rampComplete && allPresent s.control.mode (finalWork i s).state.relays .opened
        then .standby else .none
    | .tripped =>
      if (finalWork i s).state.control.deferredClear && allPresent s.control.mode (finalWork i s).state.relays .opened
        then .standby else .none
    | _ => .none := by
  have hprogress : (finalWork i s).state.control.progress = ((settledWork i s).perform i).progressDue := by
    rw [finalWork_control]
  have hmode : ((settledWork i s).perform i).state.control.mode = s.control.mode := by simp
  have hengine : ((settledWork i s).perform i).state.control.engine = (finalWork i s).state.control.engine := by
    rw [finalWork_engine]; simp
  have hdeferred : ((settledWork i s).perform i).state.control.deferredClear =
      (finalWork i s).state.control.deferredClear := by rw [finalWork_control]; simp
  have hrelays : ((settledWork i s).perform i).state.relays = (finalWork i s).state.relays := by simp [finalWork]
  have hcomposer : ((settledWork i s).perform i).state.composer = (finalWork i s).state.composer := by simp [finalWork]
  rw [hprogress]
  unfold Work.progressDue
  dsimp only
  rw [perform_softDone, hmode, hengine, hdeferred, hrelays, hcomposer]
  cases (finalWork i s).state.control.engine <;> rfl

theorem finalWork_deferredClear : (finalWork i s).state.control.deferredClear =
    (s.control.deferredClear && !(s.control.progress == .standby && s.control.engine == .tripped)) := by
  rw [finalWork_control, settledWork_control]
  exact openedWork_deferred s

theorem finalWork_engine_unprotected (hcount : 1 ≤ s.measure.tripCount) (hsafe : s.unprotected i = true) :
    (finalWork i s).state.control.engine = s.openedState := by
  rw [finalWork_engine, settledWork_engine i s hcount, (protectionDue_none i s).2 hsafe]

end

/-- Settles O35: the engine state after the opening and the protection, and the progress that it calls for. -/
theorem engineStateOfASample : Obligations.EngineStateOfASample := by
  unfold Obligations.EngineStateOfASample
  intro i s hrst hquiet hcount
  refine ⟨_, event_eq i s hrst hquiet, finalWork_engine_unprotected i s hcount, ?_, (finalWork_controlLines i s).2.2,
    finalWork_deferredClear i s, ?_⟩
  · intro p hp
    rw [finalWork_engine, settledWork_engine i s hcount, hp]
    cases p <;> rfl
  · rw [finalWork_progress, ← allPresent_iff, ← allPresent_iff]
    generalize allPresent s.control.mode (finalWork i s).state.relays .closed = allClosed
    generalize allPresent s.control.mode (finalWork i s).state.relays .opened = allOpened
    cases (finalWork i s).state.control.engine <;> simp
    all_goals split <;> exact ⟨nofun, nofun⟩

/-! #### Progress entered at the opening (R149, R152, R153, R155, R159) -/

section
variable (i : SampleInputs) {s : State}

theorem finalWork_of_enterProgress {r : Record} {h : Happening} (hrecord : r ∈ (tickedWork s).enterProgress.controlRecords)
    (hhappened : h ∈ (tickedWork s).enterProgress.happened) :
    h ∈ (finalWork i s).happened ∧ posted s (finalWork i s).state r = true :=
  ⟨finalWork_happened_openedWork i s (actOnRelease_happened _ hhappened),
    posted_control i s r (openedWork_records_settledWork i s (actOnRelease_records _ hrecord))⟩

theorem finalWork_runFlag (hflag : (tickedWork s).enterProgress.state.window.has .run = true) :
    (finalWork i s).state.window.has .run = true := by
  apply (finalWork_window_openedWork i s).2
  rw [openedWork, Work.opening]
  dsimp only
  rw [actOnRelease_window]
  exact hflag

theorem openedState_of_no_release (h : s.control.pendingRelease = false) : s.openedState = s.enteredState := by
  simp [State.openedState, State.releaseDue, h]

/-- No protection is present in a state that is not live (R136, R141, R157). -/
theorem unprotected_of_not_live (hlive : s.openedState.live = false) : s.unprotected i = true := by
  simp [State.unprotected, State.tripReported, State.tripsOn, State.faultActedOn, State.measurementLost, hlive]

/-- A sample event that enters STANDBY stays there: no protection is present, and no progress is due after it. -/
theorem finalWork_standby (hcount : 1 ≤ s.measure.tripCount) (hdue : s.control.progress = .standby) :
    (finalWork i s).state.control.engine = .standby ∧ (finalWork i s).state.control.progress = .none := by
  have hopened : s.openedState = .standby := by simp [State.openedState, State.releaseDue, State.enteredState, hdue]
  have hstandby : (finalWork i s).state.control.engine = .standby := by
    rw [finalWork_engine_unprotected i s hcount (unprotected_of_not_live i (by rw [hopened]; rfl)), hopened]
  exact ⟨hstandby, by rw [finalWork_progress, hstandby]⟩

end

/-! #### The ramps of a sample event (R78, R79) -/

/-- The release ramp becomes complete at the sample event. -/
def rampEndsAt (i : SampleInputs) (s : State) : Bool :=
  decide ((finalWork i s).state.control.engine = .releasing) && (settledWork i s).state.composer.rampRunning &&
    decide (s.composer.releaseLength ≤ (finalWork i s).state.composer.releaseAdvance * 3600 / 2 ^ 32)

theorem rampedComposer_advances (c : Composer) (engine : EngineState) (entered released : Bool) (inc : Nat) :
    (rampedComposer c engine entered released inc).softAdvance =
        (if engine = .softstart ∧ !entered then c.softAdvance + inc else c.softAdvance) ∧
      (rampedComposer c engine entered released inc).releaseAdvance =
        (if engine = .releasing ∧ !released then c.releaseAdvance + inc else c.releaseAdvance) := by
  unfold rampedComposer
  split <;> exact ⟨rfl, rfl⟩

theorem rampedComposer_marks (c : Composer) (engine : EngineState) (entered released : Bool) (inc : Nat) :
    let ends := decide (engine = .releasing) && c.rampRunning &&
      decide (c.releaseLength ≤ (rampedComposer c engine entered released inc).releaseAdvance * 3600 / 2 ^ 32)
    (rampedComposer c engine entered released inc).rampRunning = (c.rampRunning && !ends) ∧
      (rampedComposer c engine entered released inc).rampComplete = (c.rampComplete || ends) ∧
      (c.advanceRamps engine entered released inc).rampEnds engine = ends := by
  have hends : (c.advanceRamps engine entered released inc).rampEnds engine =
      (decide (engine = .releasing) && c.rampRunning &&
        decide (c.releaseLength ≤ (rampedComposer c engine entered released inc).releaseAdvance * 3600 / 2 ^ 32)) := by
    rw [(rampedComposer_advances _ _ _ _ _).2]
    rfl
  dsimp only
  rw [← hends]
  unfold rampedComposer
  cases h : (c.advanceRamps engine entered released inc).rampEnds engine <;>
    simp [Composer.advanceRamps, Composer.endRamp]

section
variable (i : SampleInputs) (s : State)

/-- The protection leaves the composer but for the mark of a running ramp (R156). -/
theorem settledWork_composer : (settledWork i s).state.composer =
    { (openedWork s).state.composer with rampRunning := (settledWork i s).state.composer.rampRunning } := by
  have h := protect_composer i (measuredWork i s)
  rw [measuredWork_composer] at h
  exact h

theorem finalWork_softAdvance : (finalWork i s).state.composer.softAdvance =
    if s.control.progress = .softstart then 0
    else if (finalWork i s).state.control.engine = .softstart then s.composer.softAdvance + s.incrementDue
    else s.composer.softAdvance := by
  have hsoft : (lanedWork i (settledWork i s)).state.composer.softAdvance =
      if s.control.progress = .softstart then 0 else s.composer.softAdvance := by
    rw [lanedWork_composer, settledWork_composer, ← openedWork_soft]
  rw [finalWork_composer, finalWork_engine]
  simp only [Composer.compose, (rampedComposer_advances _ _ _ _ _).1, hsoft]
  by_cases hentered : s.control.progress = .softstart <;> simp [hentered]

theorem finalWork_releaseAdvance : (finalWork i s).state.composer.releaseAdvance =
    if s.releaseDue then 0
    else if (finalWork i s).state.control.engine = .releasing then s.composer.releaseAdvance + s.incrementDue
    else s.composer.releaseAdvance := by
  have hrelease : (lanedWork i (settledWork i s)).state.composer.releaseAdvance =
      if s.releaseDue then 0 else s.composer.releaseAdvance := by
    rw [lanedWork_composer, settledWork_composer, ← (openedWork_release s).1]
  rw [finalWork_composer, finalWork_engine]
  simp only [Composer.compose, (rampedComposer_advances _ _ _ _ _).2, hrelease]
  cases s.releaseDue <;> simp

theorem finalWork_releaseOrigin : (finalWork i s).state.composer.releaseOrigin =
    if s.releaseDue then (if s.enteredState = .closing then perPhase 0 else s.composer.lastComposed)
    else s.composer.releaseOrigin := by
  rw [← (openedWork_release s).2.2.2, finalWork_composer]
  simp only [Composer.compose, (rampedComposer_kept _ _ _ _ _).2.2.2.1, lanedWork_composer]
  rw [settledWork_composer]

theorem finalWork_rampMarks :
    (finalWork i s).state.composer.rampRunning = ((settledWork i s).state.composer.rampRunning && !rampEndsAt i s) ∧
      (finalWork i s).state.composer.rampComplete =
        ((if s.releaseDue then decide (s.enteredState = .closing) else s.composer.rampComplete) || rampEndsAt i s) ∧
      (rampEndsAt i s = true → .releaseRampComplete ∈ (finalWork i s).happened) := by
  have hcomplete : (lanedWork i (settledWork i s)).state.composer.rampComplete =
      if s.releaseDue then decide (s.enteredState = .closing) else s.composer.rampComplete := by
    rw [lanedWork_composer, settledWork_composer, ← (openedWork_release s).2.2.1]
  have hlength : (lanedWork i (settledWork i s)).state.composer.releaseLength = s.composer.releaseLength := by
    rw [lanedWork_composer]; exact (settledWork_composer_kept i s).2.2.1
  obtain ⟨hrunning, hdone, hends⟩ := rampedComposer_marks (lanedWork i (settledWork i s)).state.composer
    (settledWork i s).state.control.engine (decide (s.control.progress = .softstart)) s.releaseDue s.incrementDue
  have hadvance : (rampedComposer (lanedWork i (settledWork i s)).state.composer (settledWork i s).state.control.engine
      (decide (s.control.progress = .softstart)) s.releaseDue s.incrementDue).releaseAdvance =
      (finalWork i s).state.composer.releaseAdvance := by rw [finalWork_composer]; rfl
  rw [hadvance, hlength, ← finalWork_engine] at hrunning hdone hends
  rw [hcomplete] at hdone
  refine ⟨by rw [finalWork_composer, ← finalWork_engine]; exact hrunning,
    by rw [finalWork_composer, ← finalWork_engine]; exact hdone, fun hat => (mem_happened_compose i s).2 ?_⟩
  rw [mem_happens, ← finalWork_engine, hends]
  exact ⟨hat, rfl⟩

end

/-- Settles O36: the entry's record, flag and row stand in the work of the opening, which the later stages keep. -/
theorem progressIsEnteredAtTheOpening : Obligations.ProgressIsEnteredAtTheOpening := by
  unfold Obligations.ProgressIsEnteredAtTheOpening
  intro i s hrst hquiet hcount
  refine ⟨fun hdue => ?_, fun hdue => ?_, fun hdue hengine => ?_, fun hdue hengine => ?_⟩
  · obtain ⟨hhappened, hposted⟩ := finalWork_of_enterProgress i (s := s)
      (r := engineRecord (s.timebase.tick s.control.mode) .softstart .closed) (h := .enterSoftstart)
      (by simp [Work.enterProgress, hdue]) (by simp [Work.enterProgress, hdue])
    rw [engineRecord, formRecord_eq i] at hposted
    refine ⟨_, row_eq i s _ hrst hquiet hhappened, event_eq i s hrst hquiet, hposted, ?_, fun hfree hsafe => ?_⟩
    · rw [finalWork_softAdvance, if_pos hdue]
    · rw [finalWork_engine_unprotected i s hcount hsafe, openedState_of_no_release hfree, State.enteredState, hdue]
  · obtain ⟨hhappened, hposted⟩ := finalWork_of_enterProgress i (s := s)
      (r := engineRecord (s.timebase.tick s.control.mode) .running .softstartDone) (h := .enterRunning)
      (by simp [Work.enterProgress, hdue]) (by simp [Work.enterProgress, hdue])
    rw [engineRecord, formRecord_eq i] at hposted
    refine ⟨_, row_eq i s _ hrst hquiet hhappened, event_eq i s hrst hquiet, ?_, hposted, fun hfree hsafe => ?_⟩
    · exact finalWork_runFlag i (by simp [Work.enterProgress, hdue, setFlag_has])
    · rw [finalWork_engine_unprotected i s hcount hsafe, openedState_of_no_release hfree, State.enteredState, hdue]
  · obtain ⟨hhappened, hposted⟩ := finalWork_of_enterProgress i (s := s)
      (r := engineRecord (s.timebase.tick s.control.mode) .standby .released) (h := .released)
      (by simp [Work.enterProgress, hdue, hengine]) (by simp [Work.enterProgress, hdue, hengine])
    rw [engineRecord, formRecord_eq i] at hposted
    obtain ⟨hstandby, hprogress⟩ := finalWork_standby i hcount hdue
    exact ⟨_, row_eq i s _ hrst hquiet hhappened, event_eq i s hrst hquiet,
      finalWork_runFlag i (by simp [Work.enterProgress, hdue, setFlag_has]), hposted, hstandby, hprogress⟩
  · obtain ⟨hhappened, hposted⟩ := finalWork_of_enterProgress i (s := s)
      (r := engineRecord (s.timebase.tick s.control.mode) .standby .clear) (h := .deferredClear)
      (by simp [Work.enterProgress, hdue, hengine]) (by simp [Work.enterProgress, hdue, hengine])
    rw [engineRecord, formRecord_eq i] at hposted
    obtain ⟨hstandby, hprogress⟩ := finalWork_standby i hcount hdue
    refine ⟨_, row_eq i s _ hrst hquiet hhappened, event_eq i s hrst hquiet,
      finalWork_runFlag i (by simp [Work.enterProgress, hdue, setFlag_has]), hposted, hstandby, ?_, hprogress⟩
    rw [finalWork_deferredClear, hdue, hengine]
    simp

end Sys2Proof.Machine
end

section
/-! ### The composed levels, the relay commands and the ramps of a sample event -/

namespace Sys2Proof.Machine

section
variable (i : SampleInputs) (s : State)

theorem finalWork_current (k : LaneId) : (getLane (finalWork i s).state.lanes k).current =
    (getLane (lanedWork i (settledWork i s)).state.lanes k).current := by
  rw [finalWork_lane]; rfl

theorem finalWork_owner (set : PerLane Bool) : ownerEpisode (finalWork i s).state.lanes set =
    ownerEpisode (lanedWork i (settledWork i s)).state.lanes set :=
  ownerEpisode_congr _ _ _ (finalWork_current i s)

theorem openedWork_closeCommand : (openedWork s).state.composer.closeCommand = s.composer.closeCommand := by
  have henter : (tickedWork s).enterProgress.state.composer.closeCommand = s.composer.closeCommand := by
    unfold Work.enterProgress
    dsimp only
    split <;> rfl
  rw [← henter, openedWork, Work.opening]
  unfold Work.actOnRelease Composer.release
  dsimp only
  split
  · split <;> rfl
  · rfl

theorem rampedComposer_closeCommand (c : Composer) (engine : EngineState) (entered released : Bool) (inc : Nat) :
    (rampedComposer c engine entered released inc).closeCommand = c.closeCommand := by
  unfold rampedComposer
  split <;> rfl

/-- The composed level that a sample event leaves is that of its claims, lanes and ramps (R80). -/
theorem finalWork_level (x : Phase) : getPhase (finalWork i s).state.composer.lastComposed x =
    (finalWork i s).state.composer.composedLevel s.control.mode (finalWork i s).state.control.engine
      (finalWork i s).state.lanes x := by
  unfold Composer.composedLevel
  rw [finalWork_owner]
  rw [finalWork_engine, finalWork_composer]
  simp only [Composer.compose, getPhase_tabPhase, Composer.composedLevel]
  split
  · split
    · rw [finalWork_lane]; rfl
    · rfl
  · rfl

/-- The relay command that a sample event leaves is that of its claims and lanes, the command before it held while a
release ramp runs (R81). -/
theorem finalWork_command (x : Phase) : getPhase (finalWork i s).state.composer.closeCommand x =
    ({ (finalWork i s).state.composer with closeCommand := s.composer.closeCommand } : Composer).commandFor s.control.mode
      (finalWork i s).state.control.engine (finalWork i s).state.lanes x := by
  have hbefore : (lanedWork i (settledWork i s)).state.composer.closeCommand = s.composer.closeCommand := by
    rw [lanedWork_composer, settledWork_composer]; exact openedWork_closeCommand s
  unfold Composer.commandFor
  dsimp only
  rw [finalWork_owner]
  rw [finalWork_engine, finalWork_composer]
  simp only [Composer.compose, getPhase_tabPhase, Composer.commandFor, rampedComposer_closeCommand, hbefore]

end

/-! #### Owners of a claim set (R74) -/

theorem ownerEpisode_of_none {set : PerLane Bool} (ls : PerLane Lane) (h : lowestLane set = none) :
    ownerEpisode ls set = none := by
  rw [ownerEpisode, h]; rfl

theorem ownerEpisode_of_lowest {set : PerLane Bool} {ls : PerLane Lane} {k : LaneId} {ep : Episode}
    (h : lowestLane set = some k) (hcurrent : (getLane ls k).current = some ep) : ownerEpisode ls set = some (k, ep) := by
  rw [ownerEpisode, h]; simp [hcurrent]

/-! #### The ramps (R78 to R81, R153) -/

section
variable (i : SampleInputs) {s : State}

theorem softstartComplete_happened
    (hdone : (finalWork i s).state.composer.softDone (finalWork i s).state.control.engine = true) :
    .softstartComplete ∈ (finalWork i s).happened := by
  apply (mem_happened_compose i s).1
  rw [mem_happens, perform_softDone]
  rw [finalWork_engine] at hdone
  refine ⟨?_, rfl⟩
  simpa [finalWork] using hdone

/-- With no LEVEL owner a present phase has the default of the engine state (R76). -/
theorem finalWork_level_default {x : Phase} (hpresent : present s.control.mode x = true)
    (hfree : lowestLane (getPhase (finalWork i s).state.composer.claims.level x) = none) :
    getPhase (finalWork i s).state.composer.lastComposed x =
      (finalWork i s).state.composer.levelDefault (finalWork i s).state.control.engine x := by
  rw [finalWork_level, levelNone _ _ _ _ _ hpresent hfree]

theorem softEnvelope_eq (steady advance length : Nat) : softEnvelope steady (advanceUnits advance) length =
    Int.ofNat (if advance * 3600 / 2 ^ 32 < length then steady * (advance * 3600 / 2 ^ 32) / length else steady) := by
  unfold softEnvelope rampPoint truncDiv
  rw [show advanceUnits advance = advance * 3600 / 2 ^ 32 from rfl]
  split
  · simp
    rfl
  · rfl

theorem releaseEnvelope_eq (origin : Int) (advance length : Nat) :
    releaseEnvelope origin (advanceUnits advance) length =
      if advance * 3600 / 2 ^ 32 < length then
        origin + Int.tdiv (-origin * (advance * 3600 / 2 ^ 32 : Nat)) length
      else 0 := by
  unfold releaseEnvelope rampPoint truncDiv
  rw [show advanceUnits advance = advance * 3600 / 2 ^ 32 from rfl, zero_sub]

theorem finalWork_softDone (hengine : (finalWork i s).state.control.engine = .softstart) :
    (finalWork i s).state.composer.softDone (finalWork i s).state.control.engine =
      decide (s.composer.softLength ≤ (finalWork i s).state.composer.softAdvance * 3600 / 2 ^ 32) := by
  unfold Composer.softDone
  rw [hengine, (finalWork_composer_kept i s).2.1]
  simp
  rfl

/-- A RELEASE ramp that has become complete commands every relay open (R81). -/
theorem finalWork_command_of_complete (hengine : (finalWork i s).state.control.engine = .releasing)
    (hcomplete : (finalWork i s).state.composer.rampComplete = true) (x : Phase) :
    getPhase (finalWork i s).state.composer.closeCommand x = false := by
  rw [finalWork_command, Composer.commandFor, hengine]
  simp [hcomplete]

theorem finalWork_level_absent {x : Phase} (habsent : present s.control.mode x = false) :
    getPhase (finalWork i s).state.composer.lastComposed x = 0 := by
  rw [finalWork_level, Composer.composedLevel, habsent]
  rfl

end

/-- Settles O45: each ramp's advance is that of the sample event, and its end and its envelope are judged on it. -/
theorem rampsComplete : Obligations.RampsComplete := by
  unfold Obligations.RampsComplete
  intro i s hrst hquiet hcount hsafe
  have hopened := finalWork_engine_unprotected i s hcount hsafe
  refine ⟨fun hsoft => ?_, fun hreleasing hold hramp => ?_, fun hdue hclosing => ?_⟩
  · have hengine : (finalWork i s).state.control.engine = .softstart := hopened.trans hsoft
    obtain ⟨hsteady, hlength, -⟩ := finalWork_composer_kept i s
    have hadvance := finalWork_softAdvance i s
    rw [hengine, if_pos rfl] at hadvance
    have hprogress := finalWork_progress i s
    rw [hengine] at hprogress
    dsimp only at hprogress ⊢
    rw [← hadvance]
    rw [hlength] at hprogress
    refine ⟨_, event_eq i s hrst hquiet, rfl, fun x hfree hpresent => ?_, fun hdone => ⟨?_, ?_⟩, fun hruns => ?_⟩
    · rw [finalWork_level_default i hpresent hfree, hengine, Composer.levelDefault, softEnvelope_eq, hsteady, hlength]
    · refine row_eq i s _ hrst hquiet (softstartComplete_happened i ?_)
      rw [finalWork_softDone i hengine, decide_eq_true hdone]
    · rw [hprogress, decide_eq_true hdone, if_pos rfl]
    · rw [hprogress, decide_eq_false (Nat.not_le.2 hruns), if_neg Bool.false_ne_true]
  · have hengine : (finalWork i s).state.control.engine = .releasing := hopened.trans hreleasing
    obtain ⟨-, -, hlength⟩ := finalWork_composer_kept i s
    have hadvance := finalWork_releaseAdvance i s
    rw [hengine, hold, if_neg Bool.false_ne_true, if_pos rfl] at hadvance
    have horigin := finalWork_releaseOrigin i s
    rw [hold, if_neg Bool.false_ne_true] at horigin
    have hrampBefore : (settledWork i s).state.composer.rampRunning = true := by
      rw [settledWork_composer_up i s hcount hsafe, (openedWork_release s).2.1, hold, if_neg Bool.false_ne_true]
      exact hramp
    obtain ⟨hrunning, hcomplete, hhappened⟩ := finalWork_rampMarks i s
    have hends : rampEndsAt i s = decide (s.composer.releaseLength ≤
        (finalWork i s).state.composer.releaseAdvance * 3600 / 2 ^ 32) := by
      simp [rampEndsAt, hengine, hrampBefore]
    rw [hrampBefore, Bool.true_and] at hrunning
    rw [hold, if_neg Bool.false_ne_true] at hcomplete
    have hdefault : ∀ x, lowestLane (getPhase (finalWork i s).state.composer.claims.level x) = none →
        present s.control.mode x = true → getPhase (finalWork i s).state.composer.lastComposed x =
          if (finalWork i s).state.composer.releaseAdvance * 3600 / 2 ^ 32 < s.composer.releaseLength then
            getPhase s.composer.releaseOrigin x + Int.tdiv (-getPhase s.composer.releaseOrigin x *
              ((finalWork i s).state.composer.releaseAdvance * 3600 / 2 ^ 32 : Nat)) s.composer.releaseLength
          else 0 := by
      intro x hfree hpresent
      rw [finalWork_level_default i hpresent hfree, hengine, Composer.levelDefault, releaseEnvelope_eq, horigin, hlength]
    dsimp only
    rw [← hadvance]
    refine ⟨_, event_eq i s hrst hquiet, rfl, fun hdone => ?_, fun hruns => ?_⟩
    · rw [decide_eq_true hdone] at hends
      rw [hends, Bool.or_true] at hcomplete
      have hopen := finalWork_command_of_complete i hengine hcomplete
      refine ⟨row_eq i s _ hrst hquiet (hhappened hends), hcomplete, by rw [hrunning, hends]; rfl, fun x =>
        ⟨hopen x, fun hfree => ?_, fun hpresent hclosed => ?_⟩⟩
      · cases hpresent : present s.control.mode x with
        | false => exact finalWork_level_absent i hpresent
        | true => rw [hdefault x hfree hpresent, if_neg (Nat.not_lt.2 hdone)]
      · rw [finalWork_relay, if_pos hpresent, hopen x]
        simp only [Relay.advance, hclosed, Relay.command, Relay.beginOpening]
        rfl
    · rw [decide_eq_false (Nat.not_le.2 hruns)] at hends
      rw [hends, Bool.or_false] at hcomplete
      refine ⟨by rw [hrunning, hends]; rfl, hcomplete, fun x hfree hpresent => ?_⟩
      rw [hdefault x hfree hpresent, if_pos hruns]
  · refine ⟨_, event_eq i s hrst hquiet, row_eq i s _ hrst hquiet (finalWork_happened_openedWork i s
      ((openedWork_release_happened s hdue).2 hclosing)), ?_⟩
    rw [(finalWork_rampMarks i s).2.1, hdue, if_pos rfl, decide_eq_true hclosing, Bool.true_or]

end Sys2Proof.Machine
end

section
/-! ### The claim sets and their owners at a sample event -/

namespace Sys2Proof.Machine

theorem claims_iff (l : Lane) (x : Phase) (aspect : Kind → Bool) : l.claims x aspect = true ↔
    l.state = .active ∧ ∃ ep, l.current = some ep ∧ getPhase ep.mask x = true ∧ aspect ep.kind = true := by
  unfold Lane.claims
  split
  next ep hstate hcurrent => simp [hstate, hcurrent, and_comm]
  next h =>
    refine ⟨nofun, fun ⟨hstate, ep, hcurrent, _⟩ => absurd hcurrent (h ep hstate)⟩

theorem claimsFreq_iff (l : Lane) : l.claimsFreq = true ↔
    l.state = .active ∧ ∃ ep, l.current = some ep ∧ ep.kind.claimsFreq = true := by
  unfold Lane.claimsFreq
  split
  next ep hstate hcurrent => simp [hstate, hcurrent]
  next h =>
    refine ⟨nofun, fun ⟨hstate, ep, hcurrent, _⟩ => absurd hcurrent (h ep hstate)⟩

/-! #### The kinds that claim each aspect (R25) -/

theorem claimsLevel_iff (kind : Kind) : kind.claimsLevel = true ↔ kind = .openCircuit ∨ ∃ target, kind = .level target := by
  cases kind <;> simp [Kind.claimsLevel]

theorem claimsShape_iff (kind : Kind) : kind.claimsShape = true ↔ ∃ j, kind = .shape j := by
  cases kind <;> simp [Kind.claimsShape]

theorem claimsFlicker_iff (kind : Kind) : kind.claimsFlicker = true ↔ ∃ d r n, kind = .flicker d r n := by
  cases kind <;> simp [Kind.claimsFlicker]

theorem claimsJump_iff (kind : Kind) : kind.claimsJump = true ↔ ∃ u o, kind = .jump u o := by
  cases kind <;> simp [Kind.claimsJump]

theorem claimsFreq_kind_iff (kind : Kind) : kind.claimsFreq = true ↔ ∃ f slew, kind = .freq f slew := by
  cases kind <;> simp [Kind.claimsFreq]

/-- The claims after a sample event are those of the lanes that it leaves (R73). -/
theorem finalWork_claimsOf (i : SampleInputs) (s : State) :
    (finalWork i s).state.composer.claims = claimsOf (finalWork i s).state.lanes := by
  rw [finalWork_claims]
  exact claimsOf_congr fun k => .inl ⟨by rw [finalWork_lane]; rfl, (finalWork_current i s k).symm⟩

theorem claimsOf_sets (ls : PerLane Lane) (x : Phase) (k : LaneId) :
    getLane (getPhase (claimsOf ls).level x) k = (getLane ls k).claims x Kind.claimsLevel ∧
      getLane (getPhase (claimsOf ls).shape x) k = (getLane ls k).claims x Kind.claimsShape ∧
      getLane (getPhase (claimsOf ls).flicker x) k = (getLane ls k).claims x Kind.claimsFlicker ∧
      getLane (getPhase (claimsOf ls).jump x) k = (getLane ls k).claims x Kind.claimsJump ∧
      getLane (claimsOf ls).freq k = (getLane ls k).claimsFreq := by
  simp [claimsOf]

section
variable (i : SampleInputs) (s : State)

/-- The command of a present phase in a state that holds the relays closed: open for an OPEN owner alone (R81). -/
theorem finalWork_command_held {x : Phase} (hpresent : present s.control.mode x = true)
    (hengine : (finalWork i s).state.control.engine ∈ [EngineState.closing, .softstart, .running]) :
    getPhase (finalWork i s).state.composer.closeCommand x =
      match ownerEpisode (finalWork i s).state.lanes (getPhase (finalWork i s).state.composer.claims.level x) with
      | some (_, ep) => !decide (ep.kind = .openCircuit)
      | none => true := by
  rw [finalWork_command, Composer.commandFor, hpresent]
  simp only [List.mem_cons, List.not_mem_nil, or_false] at hengine
  obtain h | h | h := hengine <;> rw [h] <;> rfl

/-- The command is open wherever the engine state holds no relay closed (R81). -/
theorem finalWork_command_open (x : Phase)
    (hengine : (finalWork i s).state.control.engine ∈ [EngineState.standby, .loading, .tripped, .faulted]) :
    getPhase (finalWork i s).state.composer.closeCommand x = false := by
  rw [finalWork_command, Composer.commandFor]
  simp only [List.mem_cons, List.not_mem_nil, or_false] at hengine
  obtain h | h | h | h := hengine <;> rw [h] <;> exact Bool.and_false _

theorem finalWork_command_releasing {x : Phase} (hpresent : present s.control.mode x = true)
    (hengine : (finalWork i s).state.control.engine = .releasing) :
    getPhase (finalWork i s).state.composer.closeCommand x =
      (!(finalWork i s).state.composer.rampComplete && getPhase s.composer.closeCommand x) := by
  rw [finalWork_command, Composer.commandFor, hpresent, hengine]
  rfl

end

/-- Settles O46: the claims are those of the lanes, and the level and the command of a phase follow from its owner. -/
theorem levelsAndRelayCommandsFollowTheOwner : Obligations.LevelsAndRelayCommandsFollowTheOwner := by
  unfold Obligations.LevelsAndRelayCommandsFollowTheOwner
  intro i s hrst hquiet
  refine ⟨_, event_eq i s hrst hquiet, ?_⟩
  dsimp only
  refine ⟨fun x k => ?_, fun x => ⟨fun habsent => ⟨finalWork_level_absent i habsent, ?_⟩, fun hpresent => ⟨?_, ?_, ?_⟩⟩⟩
  · rw [finalWork_claimsOf]
    obtain ⟨hlevel, hshape, hflicker, hjump, hfreq⟩ := claimsOf_sets (finalWork i s).state.lanes x k
    rw [hlevel, hshape, hflicker, hjump, hfreq, claimsFreq_iff]
    simp only [claims_iff, claimsLevel_iff, claimsShape_iff, claimsFlicker_iff, claimsJump_iff, claimsFreq_kind_iff,
      and_self]
  · rw [finalWork_command, Composer.commandFor, habsent]
    rfl
  · intro k ep hclaims hlowest hcurrent
    have howner := ownerEpisode_of_lowest (lowestLane_eq_some _ k hclaims hlowest) hcurrent
    refine ⟨?_, fun hengine => ?_⟩
    · rw [finalWork_level, Composer.composedLevel, if_pos hpresent, howner]
    · rw [finalWork_command_held i s hpresent hengine, howner]
  · intro hfree
    have hnone := lowestLane_eq_none _ hfree
    refine ⟨?_, fun hengine => ?_, fun hengine => finalWork_command_releasing i s hpresent hengine⟩
    · rw [finalWork_level_default i hpresent hnone]
      generalize (finalWork i s).state.control.engine = engine
      cases engine with
      | softstart =>
        refine (softEnvelope_eq _ _ _).trans ?_
        rw [apply_ite Int.ofNat]
      | releasing => exact releaseEnvelope_eq _ _ _
      | standby | loading | closing | running | tripped | faulted => rfl
    · rw [finalWork_command_held i s hpresent hengine, ownerEpisode_of_none _ hnone]
  · exact fun hengine => finalWork_command_open i s x hengine

end Sys2Proof.Machine
end

section
/-! ### The rounds of cascades, and the courses of a lane that runs at a sample event (R54) -/

namespace Sys2Proof.Machine

/-! #### One round -/

section
variable (envs : PerLane SampleEnv)

/-- One round of cascades. -/
def cascadeRound (os : PerLane LaneOut) : PerLane LaneOut :=
  tabLane fun k => hearEnd (getLane envs k) (lastEnds os) (getLane os k)

theorem cascadeRounds_succ (n : Nat) (os : PerLane LaneOut) :
    cascadeRounds envs (n + 1) os = cascadeRounds envs n (cascadeRound envs os) := rfl

theorem getLane_cascadeRound (os : PerLane LaneOut) (k : LaneId) :
    getLane (cascadeRound envs os) k = hearEnd (getLane envs k) (lastEnds os) (getLane os k) := getLane_tabLane _ _

theorem lastEnds_apply (os : PerLane LaneOut) (k : LaneId) : getLane (lastEnds os) k = (getLane os k).lastEnd :=
  getLane_tabLane _ _

/-- A lane that hears its END fires. -/
def LaneOut.fired (o : LaneOut) (e : SampleEnv) (ep : Episode) : LaneOut := { o with listening := none }.andThen (fire e ep)

theorem fired_listening (o : LaneOut) (e : SampleEnv) (ep : Episode) : (o.fired e ep).listening = none := by
  simp only [LaneOut.fired, LaneOut.andThen, fire_listening]
  rfl

variable {envs} {os : PerLane LaneOut} {k j : LaneId} (hlistening : (getLane os k).listening = some j)
include hlistening

theorem cascadeRound_unheard (hend : (getLane os j).lastEnd = false) :
    getLane (cascadeRound envs os) k = getLane os k := by
  rw [getLane_cascadeRound]
  unfold hearEnd
  rw [hlistening]
  split
  next j' ep hj _ => rw [← Option.some.inj hj, lastEnds_apply, hend, if_neg Bool.false_ne_true]
  next => rfl

variable {ep : Episode} (hcurrent : (getLane os k).lane.current = some ep)
include hcurrent

theorem cascadeRound_heard (hend : (getLane os j).lastEnd = true) :
    getLane (cascadeRound envs os) k = (getLane os k).fired (getLane envs k) ep := by
  rw [getLane_cascadeRound]
  unfold hearEnd
  rw [hlistening, hcurrent]
  dsimp only
  rw [lastEnds_apply, hend, if_pos rfl]
  rfl

theorem cascadeRounds_heard (n : Nat) (hend : (getLane os j).lastEnd = true) :
    getLane (cascadeRounds envs (n + 1) os) k = (getLane os k).fired (getLane envs k) ep := by
  rw [cascadeRounds_succ, cascadeRounds_none _ _ _ _ (by rw [cascadeRound_heard hlistening hcurrent hend, fired_listening]),
    cascadeRound_heard hlistening hcurrent hend]

omit hcurrent in
/-- A lane does not hear a lane that makes no last END, and not itself. -/
theorem cascadeRounds_unheard (n : Nat) (hend : (getLane os j).lastEnd = false)
    (hsilent : (getLane os j).listening = none ∨ j = k) :
    getLane (cascadeRounds envs n os) k = getLane os k := by
  induction n generalizing os with
  | zero => rfl
  | succ n ih =>
    have hkept := cascadeRound_unheard (envs := envs) hlistening hend
    have hnamed : getLane (cascadeRound envs os) j = getLane os j := by
      obtain hnone | rfl := hsilent
      · rw [getLane_cascadeRound, hearEnd_none _ _ _ hnone]
      · exact hkept
    rw [cascadeRounds_succ, ih (by rw [hkept]; exact hlistening) (by rw [hnamed]; exact hend) (by rw [hnamed]; exact hsilent),
      hkept]

/-- The END of a lane that itself fires in the first round is heard in the second. -/
theorem cascadeRounds_heard_later (n : Nat) (hend : (getLane os j).lastEnd = false)
    (hfired : (getLane (cascadeRound envs os) j).lastEnd = true) :
    getLane (cascadeRounds envs (n + 2) os) k = (getLane os k).fired (getLane envs k) ep := by
  have hkept := cascadeRound_unheard (envs := envs) hlistening hend
  rw [cascadeRounds_succ, cascadeRounds_heard (by rw [hkept]; exact hlistening) (by rw [hkept]; exact hcurrent) n hfired,
    hkept]

/-- A listening lane either fires in some round or listens to the last. -/
theorem cascadeRounds_cases (n : Nat) : getLane (cascadeRounds envs n os) k = getLane os k ∨
    getLane (cascadeRounds envs n os) k = (getLane os k).fired (getLane envs k) ep := by
  induction n generalizing os with
  | zero => exact .inl rfl
  | succ n ih =>
    cases hend : (getLane os j).lastEnd with
    | true => exact .inr (cascadeRounds_heard hlistening hcurrent n hend)
    | false =>
      have hkept := cascadeRound_unheard (envs := envs) hlistening hend
      rw [cascadeRounds_succ, ← hkept]
      exact ih (by rw [hkept]; exact hlistening) (by rw [hkept]; exact hcurrent)

end

/-! #### The lanes' work by their first work -/

section
variable (i : SampleInputs) (s : State)

/-- A lane's work at the sample event before any cascade. -/
def firstOut (k : LaneId) : LaneOut := laneWork (envOf i s k) (getLane s.lanes k)

theorem outsOf_eq (k : LaneId) : getLane (outsOf i s) k =
    closeListening (getLane (cascadeRounds (tabLane (envOf i s)) 6 (tabLane (firstOut i s))) k) := by
  unfold outsOf lanesWork
  rw [getLane_tabLane]
  simp only [getLane_tabLane]
  rfl

variable {i s} {k j : LaneId} {ep : Episode}

theorem outsOf_quiet (hquiet : (firstOut i s k).listening = none) : getLane (outsOf i s) k = firstOut i s k :=
  outsOf_none i s k hquiet

/-- A lane whose CASCADE has been evaluated and not heard (R54). -/
def LaneOut.unheard (o : LaneOut) : LaneOut := { o with lane := { o.lane with evaluated := true } }

theorem closeListening_unheard {o : LaneOut} {j : LaneId} (h : o.listening = some j) : closeListening o = o.unheard := by
  unfold closeListening
  split
  next => rfl
  next hnone => rw [hnone] at h; cases h

theorem closeListening_fired (o : LaneOut) (e : SampleEnv) (ep : Episode) :
    closeListening (o.fired e ep) = o.fired e ep := by
  unfold closeListening
  rw [fired_listening]

variable (hlistening : (firstOut i s k).listening = some j)
include hlistening

theorem outsOf_unheard (hend : (firstOut i s j).lastEnd = false) (hsilent : (firstOut i s j).listening = none ∨ j = k) :
    getLane (outsOf i s) k = (firstOut i s k).unheard := by
  rw [outsOf_eq, cascadeRounds_unheard (by rw [getLane_tabLane]; exact hlistening) 6
    (by rw [getLane_tabLane]; exact hend) (by rw [getLane_tabLane]; exact hsilent), getLane_tabLane,
    closeListening_unheard hlistening]

variable (hcurrent : (firstOut i s k).lane.current = some ep)
include hcurrent

theorem outsOf_heard (hend : (firstOut i s j).lastEnd = true) :
    getLane (outsOf i s) k = (firstOut i s k).fired (envOf i s k) ep := by
  rw [outsOf_eq, cascadeRounds_heard (by rw [getLane_tabLane]; exact hlistening)
    (by rw [getLane_tabLane]; exact hcurrent) 5 (by rw [getLane_tabLane]; exact hend), getLane_tabLane, getLane_tabLane,
    closeListening_fired]

/-- A lane hears the END that another makes when it hears its own (R54). -/
theorem outsOf_heard_later {l : LaneId} {ep' : Episode} (hnamed : (firstOut i s j).listening = some l)
    (hcurrent' : (firstOut i s j).lane.current = some ep') (hl : (firstOut i s l).lastEnd = true)
    (hend : (firstOut i s j).lastEnd = false) (hfired : ((firstOut i s j).fired (envOf i s j) ep').lastEnd = true) :
    getLane (outsOf i s) k = (firstOut i s k).fired (envOf i s k) ep := by
  rw [outsOf_eq, cascadeRounds_heard_later (by rw [getLane_tabLane]; exact hlistening)
    (by rw [getLane_tabLane]; exact hcurrent) 4 (by rw [getLane_tabLane]; exact hend), getLane_tabLane, getLane_tabLane,
    closeListening_fired]
  rw [cascadeRound_heard (by rw [getLane_tabLane]; exact hnamed) (by rw [getLane_tabLane]; exact hcurrent')
    (by rw [getLane_tabLane]; exact hl), getLane_tabLane, getLane_tabLane]
  exact hfired

theorem outsOf_listening_cases :
    getLane (outsOf i s) k = (firstOut i s k).unheard ∨
      getLane (outsOf i s) k = (firstOut i s k).fired (envOf i s k) ep := by
  rw [outsOf_eq]
  obtain h | h := cascadeRounds_cases (envs := tabLane (envOf i s)) (os := tabLane (firstOut i s)) (k := k) (j := j)
    (by rw [getLane_tabLane]; exact hlistening) (ep := ep) (by rw [getLane_tabLane]; exact hcurrent) 6
  · rw [h, getLane_tabLane, closeListening_unheard hlistening]
    exact .inl rfl
  · rw [h, getLane_tabLane, getLane_tabLane, closeListening_fired]
    exact .inr rfl

end

/-! #### A lane that does its own work -/

section
variable {i : SampleInputs} {s : State} {k : LaneId} {ep : Episode}

theorem firstOut_runs (hcount : 1 ≤ s.measure.tripCount) (hruns : s.laneRuns i k = true) :
    firstOut i s k = ownWork (envOf i s k) (takenLane i s k) := (runs_eq i s k hcount hruns).2.2.2.2.1

theorem takenLane_of_not_active (h : (getLane s.lanes k).state ≠ .active) : takenLane i s k = getLane s.lanes k := by
  simp [takenLane, h]

theorem firstOut_waiting (hcount : 1 ≤ s.measure.tripCount) (hruns : s.laneRuns i k = true)
    (hstate : (getLane s.lanes k).state = .waiting) (hcurrent : (getLane s.lanes k).current = some ep) :
    firstOut i s k = waitingWork (envOf i s k) ep (getLane s.lanes k) := by
  rw [firstOut_runs hcount hruns, takenLane_of_not_active (by rw [hstate]; nofun), ownWork, hstate, hcurrent]

theorem firstOut_active (hcount : 1 ≤ s.measure.tripCount) (hruns : s.laneRuns i k = true)
    (hstate : (getLane s.lanes k).state = .active) (hcurrent : (getLane s.lanes k).current = some ep) :
    firstOut i s k = activeWork (envOf i s k) ep (takenLane i s k) := by
  obtain ⟨hs, hc, -⟩ := takenLane_kept i s k
  rw [firstOut_runs hcount hruns, ownWork, hs, hc, hstate, hcurrent]

theorem outsOf_active (hcount : 1 ≤ s.measure.tripCount) (hruns : s.laneRuns i k = true)
    (hstate : (getLane s.lanes k).state = .active) (hcurrent : (getLane s.lanes k).current = some ep) :
    getLane (outsOf i s) k = activeWork (envOf i s k) ep (takenLane i s k) := by
  have h := firstOut_active hcount hruns hstate hcurrent
  rw [outsOf_quiet (by rw [h]; exact activeWork_listening _ _ _), h]

theorem outsOf_gap (hcount : 1 ≤ s.measure.tripCount) (hruns : s.laneRuns i k = true)
    (hstate : (getLane s.lanes k).state = .gap) (hcurrent : (getLane s.lanes k).current = some ep) :
    getLane (outsOf i s) k = gapWork (envOf i s k) ep (getLane s.lanes k) := by
  have h : firstOut i s k = gapWork (envOf i s k) ep (getLane s.lanes k) := by
    rw [firstOut_runs hcount hruns, takenLane_of_not_active (by rw [hstate]; nofun), ownWork, hstate, hcurrent]
  rw [outsOf_quiet (by rw [h]; unfold gapWork; dsimp only; split <;> rfl), h]

end

end Sys2Proof.Machine
end

section
/-! ### What a lane's own work leaves, and the codes of a live sample -/

namespace Sys2Proof.Machine

/-! #### The lane in an application (R55 to R59) -/

theorem inStage_kept (l : Lane) (ep : Episode) (steady : PerPhase Nat) (stage : Stage) (p : Nat) (atTrigger : Bool) :
    l.inStage ep steady stage p atTrigger =
      { l with
        stage := some stage, exitOrigin := (l.inStage ep steady stage p atTrigger).exitOrigin
        envelope := (l.inStage ep steady stage p atTrigger).envelope } := by
  unfold Lane.inStage
  dsimp only
  split <;> rfl

theorem flickerStep_kept (l : Lane) (depth interval : Nat) : (l.flickerStep depth interval).lane =
    { l with
      factor := (l.flickerStep depth interval).lane.factor, countdown := (l.flickerStep depth interval).lane.countdown } := by
  unfold Lane.flickerStep
  split <;> rfl

theorem endApplication_not_active (e : SampleEnv) (ep : Episode) (l : Lane) :
    (endApplication e ep l).lane.state ≠ .active := by
  unfold endApplication
  dsimp only [LaneOut.andThen]
  split
  · split <;> nofun
  · exact (nextSlot_state _ _).1

section
variable {e : SampleEnv} {ep : Episode} {l : Lane} {stage : Stage}

/-- The work of an ACTIVE lane whose application goes on, by its kind (R57, R59). -/
theorem activeWork_of_stage (hstage : stageAt ep (l.advanced e.advance).phaseAdvance = some stage)
    (hkind : ∀ depth rate interval, ep.kind ≠ .flicker depth rate interval) : activeWork e ep l =
      { lane := (l.advanced e.advance).inStage ep e.steady stage (l.advanced e.advance).phaseAdvance false } := by
  unfold activeWork
  dsimp only
  rw [hstage]
  dsimp only
  split
  next depth rate interval h => exact absurd h (hkind depth rate interval)
  next => rfl

theorem activeWork_of_flicker {depth rate interval : Nat} (hkind : ep.kind = .flicker depth rate interval)
    (hstage : stageAt ep (l.advanced e.advance).phaseAdvance = some stage) : activeWork e ep l =
      ((l.advanced e.advance).inStage ep e.steady stage (l.advanced e.advance).phaseAdvance false).flickerStep depth
        interval := by
  unfold activeWork
  dsimp only
  rw [hstage]
  dsimp only
  rw [hkind]

theorem activeWork_of_end (hend : stageAt ep (l.advanced e.advance).phaseAdvance = none) :
    activeWork e ep l = endApplication e ep (l.advanced e.advance) := by
  unfold activeWork
  dsimp only
  rw [hend]

theorem activeWork_kept (hstage : stageAt ep (l.advanced e.advance).phaseAdvance = some stage) :
    (activeWork e ep l).lane =
      { l.advanced e.advance with
        stage := some stage, exitOrigin := (activeWork e ep l).lane.exitOrigin
        envelope := (activeWork e ep l).lane.envelope, factor := (activeWork e ep l).lane.factor
        countdown := (activeWork e ep l).lane.countdown } := by
  by_cases hflicker : ∃ depth rate interval, ep.kind = .flicker depth rate interval
  · obtain ⟨depth, rate, interval, hkind⟩ := hflicker
    rw [activeWork_of_flicker hkind hstage, flickerStep_kept, inStage_kept]
  · rw [activeWork_of_stage hstage (fun d r n h => hflicker ⟨d, r, n, h⟩), inStage_kept]

theorem activeWork_clips (hactive : (activeWork e ep l).lane.state = .active) :
    (activeWork e ep l).lane.clips = l.clips := by
  cases hstage : stageAt ep (l.advanced e.advance).phaseAdvance with
  | none =>
    rw [activeWork_of_end hstage] at hactive
    exact absurd hactive (endApplication_not_active _ _ _)
  | some stage => rw [activeWork_kept hstage]; rfl

/-- The Iref of the application that begins (R55). -/
def irefAt (e : SampleEnv) (ep : Episode) (l : Lane) : Nat :=
  if l.application = 0 then getPhase e.figures.rmsI ep.reference else l.iref

/-- The lane as its trigger sample sets it, before its stage. -/
def begunAt (e : SampleEnv) (ep : Episode) (l : Lane) : Lane :=
  l.begun ep (startValues ep e.lastComposed) (irefAt e ep l)

/-- What the trigger sample hands on, before the stage. -/
def startedOut (e : SampleEnv) (ep : Episode) (l : Lane) : LaneOut :=
  { lane := begunAt e ep l
    records := startRecords e ep (decide (l.application = 0) && l.late && !l.evaluated) (startValues ep e.lastComposed)
      (irefAt e ep l) (l.application + 1)
    marker := ep.markOut }

theorem fire_of_stage (hstage : stageAt ep 0 = some stage) : fire e ep l =
    { startedOut e ep l with lane := (begunAt e ep l).inStage ep e.steady stage 0 true } := by
  unfold fire
  rw [hstage]
  rfl

theorem fire_of_end (hend : stageAt ep 0 = none) : fire e ep l = (startedOut e ep l).andThen (endApplication e ep) := by
  unfold fire
  rw [hend]
  rfl

theorem fire_clips (hactive : (fire e ep l).lane.state = .active) : (fire e ep l).lane.clips = 0 := by
  cases hstage : stageAt ep 0 with
  | none =>
    rw [fire_of_end hstage] at hactive
    exact absurd hactive (endApplication_not_active _ _ _)
  | some stage => rw [fire_of_stage hstage, inStage_kept]; rfl

end

/-! #### A WAITING lane (R49 to R54) -/

section
variable {i : SampleInputs} {s : State} {k : LaneId} {ep : Episode}

/-- A lane that does not do its own work is not ACTIVE after the sample event, listens to no lane, arms no watch and
makes no END (R65 to R69). -/
theorem firstOut_cases (i : SampleInputs) (s : State) (k : LaneId) :
    firstOut i s k = ownWork (envOf i s k) (takenLane i s k) ∨
      ((firstOut i s k).lane.state ≠ .active ∧ (firstOut i s k).listening = none ∧ (firstOut i s k).arming = none ∧
        (firstOut i s k).lastEnd = false) := by
  rw [firstOut, laneWork_eq]
  split
  · unfold protectWork
    split
    · exact .inr ⟨by simp_all, rfl, rfl, rfl⟩
    · exact .inr ⟨nofun, rfl, rfl, rfl⟩
  · split
    · unfold releaseWork
      dsimp only [LaneOut.andThen]
      split
      · split
        · exact .inr ⟨nofun, rfl, rfl, rfl⟩
        · exact .inr ⟨by simp_all, rfl, rfl, rfl⟩
      · split
        · exact .inr ⟨nofun, rfl, rfl, rfl⟩
        · exact .inr ⟨nofun, rfl, rfl, rfl⟩
    · split
      · exact .inr ⟨nofun, rfl, rfl, rfl⟩
      · exact .inl rfl

/-- A WAITING lane that is evaluated. -/
def Lane.evaluating (l : Lane) : Lane := { l with evaluationMark := true }

/-- A WAITING lane waits on, fires, or listens for an END (R49, R50, R54). -/
theorem waitingWork_cases (e : SampleEnv) (ep : Episode) (l : Lane) :
    ((waitingWork e ep l).lane.state = l.state ∧ (waitingWork e ep l).listening = none) ∨
      waitingWork e ep l = fire e ep l.evaluating ∨
      ∃ j, ep.trigger = .cascade j ∧ e.engine = .running ∧ waitingWork e ep l = { lane := l.evaluating, listening := some j } := by
  unfold waitingWork
  dsimp only
  split
  · split
    · exact .inr (.inr ⟨_, ‹_›, ‹_›, rfl⟩)
    · split
      · exact .inr (.inl rfl)
      · exact .inl ⟨rfl, rfl⟩
  · exact .inl ⟨rfl, rfl⟩

/-- The clips of an application that goes on through the sample event are kept by the lane's own work (R61). -/
theorem outsOf_clips_active (hstate : (getLane s.lanes k).state = .active)
    (hactive : (getLane (outsOf i s) k).lane.state = .active) :
    (getLane (outsOf i s) k).lane.clips = (getLane s.lanes k).clips := by
  obtain ⟨hs, hc, hclips, -⟩ := takenLane_kept i s k
  obtain hown | ⟨hnot, hquiet, -, -⟩ := firstOut_cases i s k
  · cases hcurrent : (getLane s.lanes k).current with
    | none =>
      have hkept : firstOut i s k = { lane := takenLane i s k } := by
        rw [hown, ownWork, hs, hc, hstate, hcurrent]
      rw [outsOf_quiet (by rw [hkept]), hkept, hclips]
    | some ep =>
      have hwork : firstOut i s k = activeWork (envOf i s k) ep (takenLane i s k) := by
        rw [hown, ownWork, hs, hc, hstate, hcurrent]
      rw [outsOf_quiet (by rw [hwork]; exact activeWork_listening _ _ _), hwork] at hactive ⊢
      rw [activeWork_clips hactive, hclips]
  · rw [outsOf_quiet hquiet] at hactive
    exact absurd hactive hnot

/-- An application that begins at the sample event counts its clips from 0 (R61). -/
theorem outsOf_clips_waiting (hstate : (getLane s.lanes k).state = .waiting)
    (hactive : (getLane (outsOf i s) k).lane.state = .active) : (getLane (outsOf i s) k).lane.clips = 0 := by
  have hself : takenLane i s k = getLane s.lanes k := takenLane_of_not_active (by rw [hstate]; nofun)
  obtain hown | ⟨hnot, hquiet, -, -⟩ := firstOut_cases i s k
  · rw [hself] at hown
    cases hcurrent : (getLane s.lanes k).current with
    | none =>
      have hkept : firstOut i s k = { lane := getLane s.lanes k } := by rw [hown, ownWork, hstate, hcurrent]
      rw [outsOf_quiet (by rw [hkept]), hkept] at hactive
      rw [hstate] at hactive
      cases hactive
    | some ep =>
      have hwork : firstOut i s k = waitingWork (envOf i s k) ep (getLane s.lanes k) := by
        rw [hown, ownWork, hstate, hcurrent]
      obtain ⟨hwaits, hquiet⟩ | hfires | ⟨j, -, -, hlistens⟩ := waitingWork_cases (envOf i s k) ep (getLane s.lanes k)
      · rw [← hwork] at hwaits hquiet
        rw [outsOf_quiet hquiet, hwaits, hstate] at hactive
        cases hactive
      · rw [← hwork] at hfires
        rw [outsOf_quiet (by rw [hfires]; exact fire_listening _ _ _), hfires] at hactive ⊢
        exact fire_clips hactive
      · rw [← hwork] at hlistens
        obtain hcase | hcase := outsOf_listening_cases (i := i) (s := s) (k := k) (j := j) (ep := ep)
          (by rw [hlistens]) (by rw [hlistens]; exact hcurrent)
        · rw [hcase, hlistens] at hactive
          exact absurd (show (getLane s.lanes k).state = .active from hactive) (by rw [hstate]; nofun)
        · rw [hcase] at hactive ⊢
          exact fire_clips hactive
  · rw [outsOf_quiet hquiet] at hactive
    exact absurd hactive hnot

end

end Sys2Proof.Machine
end

section
/-! ### The codes of a live sample and the clip counts -/

namespace Sys2Proof.Machine

theorem limited_eq (ceiling : Nat) (raw : Int) :
    (limited ceiling raw).1 = max (-(ceiling : Int)) (min ceiling raw) ∧
      ((limited ceiling raw).2 = true ↔ raw < -(ceiling : Int) ∨ (ceiling : Int) < raw) := by
  unfold limited
  split
  · simp_all; omega
  · split
    · simp_all; omega
    · simp_all

section
variable (i : SampleInputs) (s : State)

/-- The relay state that the applied envelope of a phase takes, as the driver's work leaves it or found it (R82). -/
def relaySeen (x : Phase) : RelayState :=
  (getPhase (if getPhase i.relayBefore x then s.relays.relay else (finalWork i s).state.relays.relay) x).state

/-- The scaled value of a phase at the sample event, before the ceiling (R106 to R111). -/
def rawAt (x : Phase) : Int :=
  let t := (finalWork i s).state
  scaled (modulated (composite (synthesizedAngle t.timebase x (t.composer.jump t.lanes x)) (t.composer.components t.lanes x))
    (appliedEnvelope (getPhase t.composer.lastComposed x) (relaySeen i s x)) (t.composer.factor t.lanes x))
    (getPhase s.synth.peak x)

theorem finalWork_factor (x : Phase) : (finalWork i s).state.composer.factor (finalWork i s).state.lanes x =
    (finalWork i s).state.composer.factor (lanedWork i (settledWork i s)).state.lanes x := by
  unfold Composer.factor
  split
  · rw [finalWork_lane]; rfl
  · rfl

theorem composedWork_applied (x : Phase) : getPhase ((composedWork i (settledWork i s)).appliedEnvelopes i) x =
    appliedEnvelope (getPhase (finalWork i s).state.composer.lastComposed x) (relaySeen i s x) := by
  have hcomposer : (composedWork i (settledWork i s)).state.composer = (finalWork i s).state.composer := by
    rw [composedWork_composer]; simp [finalWork]
  have hrelays : (composedWork i (settledWork i s)).state.relays = (finalWork i s).state.relays := by
    simp [finalWork, perform_composedWork]
  have hbefore : getPhase (composedWork i (settledWork i s)).relayBefore x = (getPhase s.relays.relay x).state := by
    have hkept : (lanedWork i (settledWork i s)).frequency.relayBefore = (lanedWork i (settledWork i s)).relayBefore := by
      unfold Work.frequency
      split <;> rfl
    rw [show (composedWork i (settledWork i s)).relayBefore = (lanedWork i (settledWork i s)).frequency.relayBefore from rfl,
      hkept]
    simp only [lanedWork, Work.lanes, Work.advanceRelays, getPhase_tabPhase, Work.watches_relays, settledWork_relays]
  unfold Work.appliedEnvelopes relaySeen
  rw [getPhase_tabPhase, hcomposer, hrelays, hbefore]
  split <;> rfl

theorem codesOf_eq (x : Phase) : getPhase (codesOf i (settledWork i s)) x =
    if present s.control.mode x && !(finalWork i s).state.control.engine.silent then
      limited s.synth.ceiling (rawAt i s x) else (0, false) := by
  have hcomposer : (composedWork i (settledWork i s)).state.composer = (finalWork i s).state.composer := by
    rw [composedWork_composer]; simp [finalWork]
  have htimebase : (composedWork i (settledWork i s)).state.timebase = (finalWork i s).state.timebase := by
    rw [composedWork_timebase]; simp [finalWork]
  have hjump : (finalWork i s).state.composer.jump (finalWork i s).state.lanes x =
      (finalWork i s).state.composer.jump (lanedWork i (settledWork i s)).state.lanes x := by
    unfold Composer.jump; rw [finalWork_owner]
  have hcomponents : (finalWork i s).state.composer.components (finalWork i s).state.lanes x =
      (finalWork i s).state.composer.components (lanedWork i (settledWork i s)).state.lanes x := by
    unfold Composer.components; rw [finalWork_owner]
  unfold codesOf Synth.codes Synth.code rawAt
  rw [getPhase_tabPhase, hcomposer, htimebase, composedWork_control, composedWork_lanes, composedWork_synth,
    settledWork_synth, measuredWork_synth, settledWork_mode, ← finalWork_engine, composedWork_applied, ← hjump,
    ← hcomponents, ← finalWork_factor]

theorem frameOf_eq (x : Phase) : getPhase (frameOf i s) x =
    if present s.control.mode x && !(finalWork i s).state.control.engine.silent then
      max (-(s.synth.ceiling : Int)) (min s.synth.ceiling (rawAt i s x)) else 0 := by
  rw [frameOf, getPhase_tabPhase, codesOf_eq]
  split
  · exact (limited_eq _ _).1
  · rfl

/-- The code of a phase is clamped at the sample event (R112). -/
def clampedAt (x : Phase) : Bool := (getPhase (codesOf i (settledWork i s)) x).2

theorem clampedAt_iff (x : Phase) : clampedAt i s x = true ↔
    present s.control.mode x = true ∧ (finalWork i s).state.control.engine.silent = false ∧
      (rawAt i s x < -(s.synth.ceiling : Int) ∨ (s.synth.ceiling : Int) < rawAt i s x) := by
  rw [clampedAt, codesOf_eq]
  split
  next h =>
    rw [Bool.and_eq_true, Bool.not_eq_true'] at h
    simp [h, (limited_eq _ _).2]
  next h =>
    refine ⟨nofun, fun ⟨hpresent, hlive, _⟩ => absurd ?_ h⟩
    simp [hpresent, hlive]

theorem finalWork_cycleClips (x : Phase) : getPhase (finalWork i s).state.synth.cycleClips x =
    (if s.cycleStartDue = true ∨ s.timebase.restartDue ≠ .none then 0 else getPhase s.synth.cycleClips x) +
      (if clampedAt i s x then 1 else 0) := by
  rw [finalWork_synth, measuredWork_synth]
  simp only [Synth.countClips, getPhase_tabPhase, Bool.or_eq_true, decide_eq_true_eq]
  rw [apply_ite (fun v : PerPhase Nat => getPhase v x), getPhase_perPhase]
  rfl

/-- The clamps that count for a lane's application at the sample event (R114). -/
theorem clipsFor_eq (c : Claims) (clamped : PerPhase Bool) (k : LaneId) : clipsFor c clamped k =
    (if getPhase clamped .A = true ∧ c.governs .A k = true then 1 else 0) +
      (if getPhase clamped .B = true ∧ c.governs .B k = true then 1 else 0) +
      (if getPhase clamped .C = true ∧ c.governs .C k = true then 1 else 0) := by
  unfold clipsFor allPhases
  simp only [List.filter_cons, List.filter_nil, Bool.and_eq_true]
  split <;> split <;> split <;> rfl

end

theorem live_iff (engine : EngineState) :
    engine ∈ [EngineState.softstart, .running, .releasing] ↔ engine.silent = false := by
  cases engine <;> decide

/-- Settles O47: each owner's value is the one that the composer looks up, so the code is the limit of the raw value. -/
theorem liveCodesFollowTheOwners : Obligations.LiveCodesFollowTheOwners := by
  unfold Obligations.LiveCodesFollowTheOwners
  intro i s hrst hquiet
  refine ⟨_, event_eq i s hrst hquiet, ?_⟩
  intro live code owner jump list factor closed raw clamped clamps
  have hjump : ∀ x, jump x = (finalWork i s).state.composer.jump (finalWork i s).state.lanes x := by
    intro x
    dsimp only [jump, owner]
    unfold Composer.jump ownerEpisode
    cases lowestLane (getPhase (finalWork i s).state.composer.claims.jump x) with
    | none => rfl
    | some k => simp only [Option.map_some, Option.bind_some]; cases (getLane (finalWork i s).state.lanes k).current <;> rfl
  have hlist : ∀ x, list x = (finalWork i s).state.composer.components (finalWork i s).state.lanes x := by
    intro x
    dsimp only [list, owner]
    unfold Composer.components ownerEpisode
    cases lowestLane (getPhase (finalWork i s).state.composer.claims.shape x) with
    | none => rfl
    | some k => simp only [Option.map_some, Option.bind_some]; cases (getLane (finalWork i s).state.lanes k).current <;> rfl
  have hfactor : ∀ x, factor x = (finalWork i s).state.composer.factor (finalWork i s).state.lanes x := by
    intro x
    dsimp only [factor, owner]
    unfold Composer.factor
    cases lowestLane (getPhase (finalWork i s).state.composer.claims.flicker x) <;> rfl
  have hraw : ∀ x, raw x = rawAt i s x := by
    intro x
    dsimp only [raw]
    rw [hjump, hlist, hfactor]
    rfl
  have hlive : live ↔ (finalWork i s).state.control.engine.silent = false := live_iff _
  have hclamped : ∀ x, clamped x ↔ clampedAt i s x = true := by
    intro x
    rw [clampedAt_iff, ← hlive, ← hraw]
  have hclamps : ∀ k, clipsFor (finalWork i s).state.composer.claims (tabPhase (clampedAt i s)) k = clamps k := by
    intro k
    rw [clipsFor_eq]
    simp only [getPhase_tabPhase, ← hclamped]
    rfl
  have hclips : ∀ k, (getLane (finalWork i s).state.lanes k).clips =
      min ((getLane (outsOf i s) k).lane.clips + clamps k) 4294967295 := by
    intro k
    rw [finalWork_lane, lanedWork_lanes, ← hclamps]
    rfl
  have hstate : ∀ k, (getLane (finalWork i s).state.lanes k).state = (getLane (outsOf i s) k).lane.state := by
    intro k
    rw [finalWork_lane, lanedWork_lanes]
    rfl
  refine ⟨fun x => ⟨?_, ?_⟩, fun k => ⟨fun hbefore hafter => ?_, fun hbefore hafter => ?_⟩⟩
  · have hcode : code x = getPhase (frameOf i s) x := by rw [← (finalWork_buffers i s).1]
    rw [hcode, frameOf_eq, ← hraw]
    simp only [Bool.and_eq_true, Bool.not_eq_true', hlive]
  · rw [finalWork_cycleClips]
    simp only [hclamped]
  · rw [hstate] at hafter
    rw [hclips, outsOf_clips_active hbefore hafter]
  · rw [hstate] at hafter
    rw [hclips, outsOf_clips_waiting hbefore hafter, Nat.zero_add, ← hclamps, clipsFor_eq]
    split <;> split <;> split <;> rfl

end Sys2Proof.Machine
end

section
/-! ### The watch slots at a sample event (R143 to R146) -/

namespace Sys2Proof.Machine

theorem bandTest_eq (current iref band : Nat) :
    bandTest current iref band = decide (|(current : Int) - iref| * 100 ≤ band * iref) := by
  unfold bandTest
  rw [decide_eq_decide, Int.ofNat_eq_natCast, Int.ofNat_eq_natCast, Int.abs_eq_natAbs]
  generalize ((current : Int) - iref).natAbs = distance
  norm_cast

/-- The cycles in band in a row once a cycle with a current is counted (R144). -/
def Watch.bandCount (w : Watch) (current : Nat) : Nat :=
  if |(current : Int) - w.iref| * 100 ≤ w.part.band * w.iref then w.inBand + 1 else 0

theorem count_eq (w : Watch) (current : Nat) : w.count current =
    { w with
      cycles := w.cycles + 1, lastRms := some current, inBand := w.bandCount current
      runStart := if w.bandCount current = 1 then w.cycles + 1 else w.runStart } := by
  unfold Watch.count Watch.bandCount
  dsimp only
  rw [bandTest_eq]
  split
  · rename_i h
    rw [if_pos (of_decide_eq_true h)]
    simp
  · rename_i h
    rw [if_neg (fun hin => h (decide_eq_true hin))]
    simp

section
variable (w : Watch) (tb : Timebase) (k : LaneId) (figures : Figures)

/-- The watch once it has counted the cycle of these figures. -/
def Watch.counted : Watch := w.count (getPhase figures.rmsI w.reference)

variable {w}

theorem cycleWork_armed (harmed : w.armed = true) : w.cycleWork tb k figures =
    if w.part.hold ≤ (w.counted figures).inBand then (w.counted figures).finish tb k .recovered (w.counted figures).runStart
    else if w.part.limit ≤ (w.counted figures).cycles then
      (w.counted figures).finish tb k .notRecovered (w.counted figures).cycles
    else { slot := w.counted figures } := by
  unfold Watch.cycleWork Watch.counted
  rw [if_pos harmed, count_eq]

theorem abandon_of_armed (harmed : w.armed = true) : w.abandon tb k = w.finish tb k .abandoned w.cycles := if_pos harmed

theorem abandon_of_idle (hidle : w.armed = false) : w.abandon tb k = { slot := w } := by
  unfold Watch.abandon
  rw [hidle, if_neg Bool.false_ne_true]

end

/-! #### The order of a slot's work (R145) -/

section
variable {w : Watch} {tb : Timebase} {k : LaneId} {figures : Figures} {cycleStart released protection first : Bool}

/-- A slot abandoned before its cycle is counted posts the figures it held. -/
theorem sampleWork_abandons (harmed : w.armed = true) (hends : released = true ∨ protection = true)
    (huncounted : ¬(cycleStart = true ∧ first = true ∧ released = false)) :
    watchRecord tb k w .abandoned w.cycles (lastRmsField w.lastRms) ∈
      (w.sampleWork tb k figures cycleStart released protection first).records := by
  unfold Watch.sampleWork
  rw [abandon_of_armed tb k harmed]
  cases released with
  | true => cases first <;> simp [WatchOut.andThen, Watch.finish]
  | false =>
    have hprotection : protection = true := hends.resolve_left Bool.false_ne_true
    cases first with
    | false => simp [WatchOut.andThen, Watch.finish, hprotection, harmed, Watch.abandon]
    | true =>
      have hcycle : cycleStart = false := by simpa using huncounted
      simp [WatchOut.andThen, Watch.finish, hprotection, harmed, Watch.abandon, hcycle]

/-- A slot that counts its cycle before a protection abandons it posts the figures of that cycle. -/
theorem sampleWork_counts_and_abandons (harmed : w.armed = true) (hhold : (w.counted figures).inBand < w.part.hold)
    (hlimit : (w.counted figures).cycles < w.part.limit) :
    watchRecord tb k (w.counted figures) .abandoned (w.counted figures).cycles (lastRmsField (w.counted figures).lastRms) ∈
      (w.sampleWork tb k figures true false true true).records := by
  have hcycle : w.cycleWork tb k figures = { slot := w.counted figures } := by
    rw [cycleWork_armed tb k figures harmed, if_neg (Nat.not_le.2 hhold), if_neg (Nat.not_le.2 hlimit)]
  have hstill : (w.counted figures).armed = true := by rw [Watch.counted, count_eq]; exact harmed
  simp [Watch.sampleWork, WatchOut.andThen, hcycle, abandon_of_armed tb k hstill, Watch.finish]

/-- A slot that counts its cycle with nothing before it: it posts what the cycle ends it with, and a protection abandons
it after. -/
theorem sampleWork_counts (hfirst : protection = false ∨ first = true) :
    w.sampleWork tb k figures true false protection first =
      (w.cycleWork tb k figures).andThen fun w => if protection then w.abandon tb k else { slot := w } := by
  unfold Watch.sampleWork
  cases first with
  | true => simp [WatchOut.andThen]
  | false =>
    have hprotection : protection = false := hfirst.resolve_right Bool.false_ne_true
    simp [WatchOut.andThen, hprotection]

end

/-! #### A slot of the state at a sample event -/

section
variable {i : SampleInputs} {s : State} {k : LaneId}

theorem watchRecord_eq (i : SampleInputs) (s : State) (k : LaneId) (w : Watch) (outcome : WatchOutcome) (cycles : Nat)
    (lastRms : Option Nat) :
    watchRecord (s.timebase.tick s.control.mode) k w outcome cycles (lastRmsField lastRms) =
      w.endedRecord (finalWork i s).state k outcome cycles lastRms := by
  unfold watchRecord Watch.endedRecord lastRmsField
  rw [formRecord_eq i]
  cases lastRms <;> rfl

theorem posted_watchOf {r : Record} (h : r ∈ (watchOf i s k).records) : posted s (finalWork i s).state r = true :=
  posted_watch i s k r ((lanedWork_watchRecords i s k).1 r h)

theorem finalWork_watch_unarmed (h : (getLane (outsOf i s) k).arming = none) :
    getLane (finalWork i s).state.watches k = (watchOf i s k).slot := by
  rw [finalWork_watch, armedOf, h]
  rfl

theorem ownWork_unarmed {e : SampleEnv} {l : Lane} (hactive : l.state ≠ .active) (hwaiting : l.state ≠ .waiting) :
    (ownWork e l).arming = none ∧ (ownWork e l).listening = none := by
  unfold ownWork
  split
  · exact absurd ‹_› hwaiting
  · exact absurd ‹_› hactive
  · unfold gapWork
    dsimp only
    split <;> exact ⟨rfl, rfl⟩
  · exact ⟨rfl, rfl⟩

/-- A lane that is neither ACTIVE nor WAITING arms no watch (R143). -/
theorem outsOf_unarmed (hactive : (getLane s.lanes k).state ≠ .active) (hwaiting : (getLane s.lanes k).state ≠ .waiting) :
    (getLane (outsOf i s) k).arming = none := by
  obtain hown | ⟨-, hquiet, hunarmed, -⟩ := firstOut_cases i s k
  · rw [takenLane_of_not_active hactive] at hown
    obtain ⟨hunarmed, hquiet⟩ := ownWork_unarmed (e := envOf i s k) hactive hwaiting
    rw [outsOf_quiet (by rw [hown]; exact hquiet), hown, hunarmed]
  · rw [outsOf_quiet hquiet, hunarmed]

end

theorem finish_andThen_abandon (v : Watch) (tb : Timebase) (k : LaneId) (outcome : WatchOutcome) (cycles : Nat)
    (protection : Bool) :
    (v.finish tb k outcome cycles).andThen (fun w => if protection then w.abandon tb k else { slot := w }) =
      v.finish tb k outcome cycles := by
  unfold WatchOut.andThen
  cases protection <;> simp [Watch.finish, Watch.abandon]

/-- Settles O44: with no RELEASE, and no protection before it, the slot's work begins with the count of its cycle. -/
theorem watchesEndAtCycleStarts : Obligations.WatchesEndAtCycleStarts := by
  unfold Obligations.WatchesEndAtCycleStarts
  intro k i s hrst hquiet hcount harmed hcycle hrelease hfirst
  refine ⟨_, event_eq i s hrst hquiet, ?_⟩
  intro w current inBand runStart quiet
  have hwork : watchOf i s k = (w.cycleWork (s.timebase.tick s.control.mode) k (finalWork i s).state.measure.figures).andThen
      fun w => if (settledWork i s).protection then w.abandon (s.timebase.tick s.control.mode) k else { slot := w } := by
    rw [watchOf, hcycle, hrelease, sampleWork_counts]
    rw [settledWork_protection i s hcount]
    exact hfirst.imp (fun h => by rw [h]; rfl) id
  have hcounted : w.counted (finalWork i s).state.measure.figures =
      { w with cycles := w.cycles + 1, lastRms := some current, inBand := inBand, runStart := runStart } := count_eq w current
  rw [cycleWork_armed _ k _ harmed, hcounted] at hwork
  dsimp only at hwork
  have hslot : quiet → getLane (finalWork i s).state.watches k = (watchOf i s k).slot :=
    fun hidle => finalWork_watch_unarmed (outsOf_unarmed hidle.1 hidle.2)
  refine ⟨fun hhold hpositive => ?_, fun hhold hlimit => ?_, fun hhold hlimit hidle hsafe => ?_⟩
  · rw [if_pos hhold, finish_andThen_abandon] at hwork
    refine ⟨row_eq i s _ hrst hquiet (lanedWork_watch_happened i s k _ (by rw [hwork]; exact List.mem_singleton.2 rfl)),
      fun hidle => by rw [hslot hidle, hwork]; rfl, ?_⟩
    have hposted := posted_watchOf (i := i) (s := s) (k := k) (by rw [hwork]; exact List.mem_singleton.2 rfl)
    rw [watchRecord_eq i] at hposted
    exact hposted
  · rw [if_neg (Nat.not_le.2 hhold), if_pos hlimit, finish_andThen_abandon] at hwork
    refine ⟨row_eq i s _ hrst hquiet (lanedWork_watch_happened i s k _ (by rw [hwork]; exact List.mem_singleton.2 rfl)),
      fun hidle => by rw [hslot hidle, hwork]; rfl, ?_⟩
    have hposted := posted_watchOf (i := i) (s := s) (k := k) (by rw [hwork]; exact List.mem_singleton.2 rfl)
    rw [watchRecord_eq i] at hposted
    exact hposted
  · have hprotection : (settledWork i s).protection = false := by rw [settledWork_protection i s hcount, hsafe]; rfl
    rw [if_neg (Nat.not_le.2 hhold), if_neg (Nat.not_le.2 hlimit), hprotection] at hwork
    rw [hslot hidle, hwork]
    exact ⟨harmed, rfl, rfl, rfl, fun _ => rfl⟩

end Sys2Proof.Machine
end

section
/-! ### A RELEASE, a protection and a stop acted on -/

namespace Sys2Proof.Machine

/-! #### The figures of an application that ends (R61, R132, R133) -/

section
variable (i : SampleInputs) (s : State) (k : LaneId)

theorem envOf_spans (x : Phase) : getPhase (envOf i s k).spans x = s.spanDue x := by
  have hspans : (envOf i s k).spans = tabPhase fun x =>
      (getPhase ((settledWork i s).state.relays.advance (settledWork i s).state.control.mode).relay x).span := by
    simp [envOf, Work.sampleEnv, Work.advanceRelays]
  have hspan : getPhase (envOf i s k).spans x =
      (if present s.control.mode x then (getPhase s.relays.relay x).advance else getPhase s.relays.relay x).span := by
    simp only [hspans, getPhase_tabPhase, settledWork_relays, settledWork_mode, Relays.advance]
  exact hspan.trans rfl

theorem openFigures_eq (ep : Episode) :
    (openFigures ep (envOf i s k).spans).1 = (s.openFiguresDue ep).2 ∧
      (openFigures ep (envOf i s k).spans).2 = (s.openFiguresDue ep).1 := by
  unfold openFigures State.openFiguresDue
  by_cases hkind : ep.kind = .openCircuit
  · rw [hkind]
    simp only [allPhases, List.filter_cons, List.filter_nil, List.any_cons, List.any_nil, Bool.or_false, envOf_spans, true_and]
    cases getPhase ep.mask .A <;> cases getPhase ep.mask .B <;> cases getPhase ep.mask .C <;>
      simp [Nat.max_assoc, Bool.or_assoc]
  · simp only [hkind, false_and, if_false]
    exact ⟨rfl, rfl⟩

variable {i s k}
variable {ep : Episode} (hstate : (getLane s.lanes k).state = .active) (hcurrent : (getLane s.lanes k).current = some ep)
include hstate hcurrent

theorem takenLane_rms : ((takenLane i s k).rmsMin, (takenLane i s k).rmsMax) = s.rmsDue (finalWork i s).state k ep := by
  unfold takenLane State.rmsDue
  cases s.cycleStartDue with
  | false => simp
  | true =>
    rw [hstate]
    simp only [beq_self_eq_true, Bool.and_self, if_true, Lane.takeRms, hcurrent, noCycle]
    split <;> rfl

/-- The EPISODE_END that the lane posts is the one its state before and the delivered figures give (R61, R62, R65). -/
theorem endRecord_eq (cut : Bool) (l : Lane) (hmin : l.rmsMin = (takenLane i s k).rmsMin)
    (hmax : l.rmsMax = (takenLane i s k).rmsMax) (hclips : l.clips = (getLane s.lanes k).clips)
    (happlication : l.application = (getLane s.lanes k).application) :
    Machine.endRecord (envOf i s k) cut ep l = s.endRecord (finalWork i s).state cut k ep := by
  have hrms := takenLane_rms (i := i) hstate hcurrent
  rw [← hmin, ← hmax] at hrms
  obtain ⟨hspan, hstretched⟩ := openFigures_eq i s k ep
  unfold Machine.endRecord State.endRecord LaneEnv.record
  dsimp only
  rw [← hrms, hspan, hstretched, hclips, happlication, envOf_timebase, formRecord_eq i]
  rfl

theorem cut_eq : cut (envOf i s k) (takenLane i s k) = [s.endRecord (finalWork i s).state true k ep] := by
  obtain ⟨hs, hc, hclips, happlication, -⟩ := takenLane_kept i s k
  unfold cut
  rw [hs, hc, hstate, hcurrent]
  dsimp only
  rw [endRecord_eq hstate hcurrent true _ rfl rfl hclips happlication]

end

/-! #### What the lanes leave where none goes on (R68, R69) -/

section
variable {i : SampleInputs} {s : State}

theorem posted_outsOf {k : LaneId} {r : Record} (h : r ∈ (getLane (outsOf i s) k).records) :
    posted s (finalWork i s).state r = true :=
  posted_lane i s k r (lanedWork_laneRecords i s k r h)

theorem finalWork_lane_of {k : LaneId} {P : Lane → Prop} (h : ∀ n, P ((getLane (outsOf i s) k).lane.addClips n)) :
    P (getLane (finalWork i s).state.lanes k) := by
  obtain ⟨n, hn⟩ := finalWork_lane' i s k
  rw [hn]
  exact h n

theorem finalWork_claims_none (h : ∀ k, (getLane (outsOf i s) k).lane.state ≠ .active) :
    (finalWork i s).state.composer.claims = Claims.none := by
  rw [finalWork_claimsOf]
  exact claims_none_of _ fun k => finalWork_lane_of (P := fun l => l.state ≠ .active) fun _ => h k

theorem lowestLane_claims_none (x : Phase) : lowestLane (getPhase Claims.none.level x) = none := by
  refine lowestLane_eq_none _ fun k => ?_
  cases x <;> cases k <;> rfl

theorem armed_eq (k : LaneId) (harming : (getLane (outsOf i s) k).arming = none)
    (h : (watchOf i s k).slot.armed = false) : (getLane (finalWork i s).state.watches k).armed = false := by
  rw [finalWork_watch_unarmed harming, h]

end

/-! #### A RELEASE acted on (R68, R79, R145, R154) -/

section
variable {i : SampleInputs} {s : State} (hdue : s.releaseDue = true)
include hdue

theorem outsOf_released (k : LaneId) : getLane (outsOf i s) k = firstOut i s k :=
  outsOf_quiet (laneWork_release i s k hdue).1

theorem release_record : engineRecord (s.timebase.tick s.control.mode) .releasing .release ∈ (openedWork s).controlRecords := by
  have hpending : (tickedWork s).enterProgress.state.control.pendingRelease = true ∧
      (tickedWork s).enterProgress.state.control.engine.releasable = true := by
    rw [enterProgress_pendingRelease, enterProgress_engine, releasable_eq]
    exact Bool.and_eq_true_iff.1 hdue
  have hrecord : engineRecord (tickedWork s).enterProgress.state.timebase .releasing .release ∈
      (tickedWork s).enterProgress.actOnRelease.controlRecords := by
    unfold Work.actOnRelease
    dsimp only
    rw [if_pos hpending.1, if_pos hpending.2]
    exact List.mem_append_right _ (List.mem_singleton.2 rfl)
  have htimebase : (tickedWork s).enterProgress.state.timebase = s.timebase.tick s.control.mode := by simp
  rw [htimebase] at hrecord
  exact hrecord

theorem firstOut_released (hcount : 1 ≤ s.measure.tripCount) (hsafe : s.unprotected i = true) (k : LaneId) :
    firstOut i s k = (releaseWork (envOf i s k) (takenLane i s k)).andThen fun l =>
      if l.pendingStop then stopWork (envOf i s k) l else { lane := l } := by
  rw [firstOut, laneWork_eq, settledWork_protection i s hcount, hsafe, hdue]
  rfl

/-- The lane that a RELEASE leaves (R66, R68). -/
theorem released_lane (hcount : 1 ≤ s.measure.tripCount) (hsafe : s.unprotected i = true) (k : LaneId) :
    (firstOut i s k).lane =
      if (getLane s.lanes k).pendingStop then
        (if (getLane s.lanes k).state = .halted then takenLane i s k
          else { (takenLane i s k).emptied with state := .idle }).halted
      else if (getLane s.lanes k).state = .halted then takenLane i s k
      else { (takenLane i s k).emptied with state := .idle } := by
  obtain ⟨hstate, -, -, -, hstop, -⟩ := takenLane_kept i s k
  rw [firstOut_released hdue hcount hsafe, releaseWork, hstate]
  by_cases hhalted : (getLane s.lanes k).state = .halted
  · rw [if_pos hhalted]
    simp only [LaneOut.andThen, hstop, if_pos hhalted]
    split <;> rfl
  · rw [if_neg hhalted]
    simp only [LaneOut.andThen, if_neg hhalted]
    rw [show ({ (takenLane i s k).emptied with state := .idle } : Lane).pendingStop = (getLane s.lanes k).pendingStop
      from hstop]
    split <;> rfl

/-- The release ramp as a RELEASE starts it (R79). -/
theorem released_ramp (hcount : 1 ≤ s.measure.tripCount) (hsafe : s.unprotected i = true) :
    (finalWork i s).state.composer.rampComplete =
        (decide (s.enteredState = .closing) || decide (s.composer.releaseLength = 0)) ∧
      (finalWork i s).state.composer.rampRunning = !(finalWork i s).state.composer.rampComplete ∧
      (finalWork i s).state.composer.releaseAdvance = 0 := by
  have hengine : (finalWork i s).state.control.engine = .releasing := by
    rw [finalWork_engine_unprotected i s hcount hsafe, State.openedState, if_pos hdue]
  have hadvance : (finalWork i s).state.composer.releaseAdvance = 0 := by rw [finalWork_releaseAdvance, if_pos hdue]
  have hramp : (settledWork i s).state.composer.rampRunning = !decide (s.enteredState = .closing) := by
    rw [settledWork_composer_up i s hcount hsafe, (openedWork_release s).2.1, if_pos hdue]
  obtain ⟨hrunning, hcomplete, -⟩ := finalWork_rampMarks i s
  have hends : rampEndsAt i s = (!decide (s.enteredState = .closing) && decide (s.composer.releaseLength = 0)) := by
    simp [rampEndsAt, hengine, hramp, hadvance]
  rw [if_pos hdue, hends] at hcomplete
  rw [hramp, hends] at hrunning
  refine ⟨?_, ?_, hadvance⟩
  · rw [hcomplete]
    cases decide (s.enteredState = .closing) <;> rfl
  · rw [hrunning, hcomplete]
    cases decide (s.enteredState = .closing) <;> cases decide (s.composer.releaseLength = 0) <;> rfl

/-- A RELEASE ramp at its start holds the last composed levels, and one complete at once holds 0 (R79, R80). -/
theorem released_level (hcount : 1 ≤ s.measure.tripCount) (hsafe : s.unprotected i = true) (x : Phase) :
    getPhase (finalWork i s).state.composer.lastComposed x =
      if present s.control.mode x = true ∧ (finalWork i s).state.composer.rampComplete = false then
        getPhase s.composer.lastComposed x else 0 := by
  have hengine : (finalWork i s).state.control.engine = .releasing := by
    rw [finalWork_engine_unprotected i s hcount hsafe, State.openedState, if_pos hdue]
  have hclaims : (finalWork i s).state.composer.claims = Claims.none :=
    finalWork_claims_none fun k => by
      rw [outsOf_released hdue]
      exact (laneWork_release i s k hdue).2.2.1
  obtain ⟨hcomplete, -, hadvance⟩ := released_ramp hdue hcount hsafe
  cases hpresent : present s.control.mode x with
  | false => rw [finalWork_level_absent i hpresent, if_neg (by simp)]
  | true =>
    rw [finalWork_level_default i hpresent (by rw [hclaims]; exact lowestLane_claims_none x), hengine,
      Composer.levelDefault, releaseEnvelope_eq, finalWork_releaseOrigin, if_pos hdue, hadvance,
      (finalWork_composer_kept i s).2.2, hcomplete]
    by_cases hclosing : s.enteredState = .closing
    · simp [hclosing]
    · by_cases hlength : s.composer.releaseLength = 0
      · simp [hlength]
      · simp [hclosing, hlength, Nat.pos_of_ne_zero hlength]

end

/-- Settles O37: the opening's record and row, each lane's and each watch's work under a RELEASE, and the ramp it starts. -/
theorem releaseIsActedOn : Obligations.ReleaseIsActedOn := by
  unfold Obligations.ReleaseIsActedOn
  intro i s hrst hquiet hcount hdue
  refine ⟨_, row_eq i s _ hrst hquiet (finalWork_happened_openedWork i s (openedWork_release_happened s hdue).1),
    event_eq i s hrst hquiet, ?_, finalWork_slotDue i s hcount, fun k => ⟨?_, fun harmed => ?_⟩, ?_, ?_, fun hsafe => ?_⟩
  · have hposted := posted_control i s _ (openedWork_records_settledWork i s (release_record hdue))
    rw [engineRecord, formRecord_eq i] at hposted
    exact hposted
  · refine armed_eq k (by rw [outsOf_released hdue]; exact (laneWork_release i s k hdue).2.1) ?_
    rw [watchOf, hdue]
    exact watch_released _ _ _ _ _ _ _
  · have hposted := posted_watchOf (i := i) (sampleWork_abandons (tb := s.timebase.tick s.control.mode) (k := k)
      (figures := (finalWork i s).state.measure.figures) (cycleStart := s.cycleStartDue) (released := s.releaseDue)
      (protection := (settledWork i s).protection) (first := getLane i.watchFirst k) harmed (.inl hdue) (by simp [hdue]))
    rw [watchRecord_eq i] at hposted
    exact hposted
  · refine finalWork_claims_none fun k => ?_
    rw [outsOf_released hdue]
    exact (laneWork_release i s k hdue).2.2.1
  · intro k ep hstate hcurrent
    refine posted_outsOf (k := k) ?_
    rw [outsOf_released hdue]
    refine (laneWork_release i s k hdue).2.2.2 _ ?_ (by rw [hstate]; nofun)
    rw [cut_eq hstate hcurrent]
    exact List.mem_singleton.2 rfl
  · obtain ⟨hcomplete, hrunning, hadvance⟩ := released_ramp hdue hcount hsafe
    refine ⟨by rw [finalWork_engine_unprotected i s hcount hsafe, State.openedState, if_pos hdue], fun k hstate => ?_,
      fun k hstate => ?_, hcomplete, hrunning, hadvance, fun x => ⟨?_, released_level hdue hcount hsafe x⟩⟩
    · refine finalWork_lane_of (k := k) (P := fun l => l.state = (if (getLane s.lanes k).pendingStop then .halted else .idle) ∧
        l.current = none ∧ l.next = .empty ∧ l.request = none ∧ l.pendingStop = false) fun n => ?_
      rw [outsOf_released hdue, released_lane hdue hcount hsafe, if_neg hstate]
      cases hstop : (getLane s.lanes k).pendingStop with
      | true => exact ⟨rfl, rfl, rfl, rfl, rfl⟩
      | false => exact ⟨rfl, rfl, rfl, rfl, (takenLane_kept i s k).2.2.2.2.1.trans hstop⟩
    · refine finalWork_lane_of (k := k) (P := fun l => l.state = .halted) fun n => ?_
      rw [outsOf_released hdue, released_lane hdue hcount hsafe, if_pos hstate]
      cases (getLane s.lanes k).pendingStop with
      | true => rfl
      | false => exact (takenLane_kept i s k).1.trans hstate
    · rw [finalWork_releaseOrigin, if_pos hdue]
      split
      · exact getPhase_perPhase _ _
      · rfl

end Sys2Proof.Machine
end

section
/-! ### A protection acted on (R69, R81, R121, R130, R145, R156 to R158) -/

namespace Sys2Proof.Machine

/-- With no relay commanded closed a protection leaves none CLOSING or CLOSED (R130). -/
theorem command_of_protection (r : Relay) (closeTime openTime : Nat) :
    (r.command false true closeTime openTime).state ≠ .closing ∧ (r.command false true closeTime openTime).state ≠ .closed := by
  unfold Relay.command
  cases hstate : r.state <;> simp [Relay.beginOpening, hstate]

theorem protectWork_halts (e : SampleEnv) (l : Lane) : (protectWork e l).lane.state = .halted ∧ (protectWork e l).arming = none ∧
    (l.state ≠ .halted → (protectWork e l).lane = l.halted ∧ (protectWork e l).records = cut e l) := by
  unfold protectWork
  split
  next h => exact ⟨h, rfl, fun hnot => absurd h hnot⟩
  next => exact ⟨rfl, rfl, fun _ => ⟨rfl, rfl⟩⟩

section
variable {i : SampleInputs} {s : State} (hcount : 1 ≤ s.measure.tripCount)
include hcount

/-- The trip report names the first phase that trips, with its peak (R141). -/
theorem tripReport_eq (hreported : s.tripReported = true) :
    ∃ x, s.tripsOn x = true ∧ (x = .B → s.tripsOn .A = false) ∧ (x = .C → s.tripsOn .A = false ∧ s.tripsOn .B = false) ∧
      (measuredWork i s).state.measure.tripReport (measuredWork i s).state.control.mode (measuredWork i s).opened.live =
        some (x, max (getPhase s.measure.runPeak x) (getPhase s.sampleCodes.i x).natAbs) := by
  have hpeak : ∀ x, s.tripsOn x = true → getPhase (measuredWork i s).state.measure.runPeak x =
      max (getPhase s.measure.runPeak x) (getPhase s.sampleCodes.i x).natAbs := by
    intro x hx
    unfold State.tripsOn at hx
    rw [Bool.and_eq_true] at hx
    rw [measuredWork_measure]
    obtain ⟨-, -, -, -, -, -, -, -, hpeaks⟩ := measured_facts s.measure s.control.mode s.openedState.live s.cycleStartDue
      (decide (s.timebase.restartDue ≠ .none)) s.synth.cycleClips (decide (s.openedState = .running))
    rw [hpeaks]
    exact if_pos hx.1
  unfold Measure.tripReport
  rw [measuredWork_mode, measuredWork_opened]
  simp only [measuredWork_trips i s _ hcount, allPhases]
  unfold State.tripReported at hreported
  cases hA : s.tripsOn .A with
  | true => exact ⟨.A, hA, nofun, nofun, by simp [List.find?, hA, hpeak .A hA]⟩
  | false =>
    cases hB : s.tripsOn .B with
    | true => exact ⟨.B, hB, fun _ => rfl, nofun, by simp [List.find?, hA, hB, hpeak .B hB]⟩
    | false =>
      have hC : s.tripsOn .C = true := by simpa [hA, hB] using hreported
      exact ⟨.C, hC, nofun, fun _ => ⟨rfl, rfl⟩, by simp [List.find?, hA, hB, hC, hpeak .C hC]⟩

variable {p : Protection} (hp : s.protectionDue i = some p)
include hp

theorem protection_acted : (settledWork i s).protection = true := by
  rw [settledWork_protection i s hcount, Bool.not_eq_true']
  cases hsafe : s.unprotected i with
  | false => rfl
  | true =>
    rw [(protectionDue_none i s).2 hsafe] at hp
    cases hp

theorem protection_engine : (finalWork i s).state.control.engine = .tripped ∨
    (finalWork i s).state.control.engine = .faulted := by
  rw [finalWork_engine, settledWork_engine i s hcount, hp]
  cases p <;> simp

theorem firstOut_protected (k : LaneId) : firstOut i s k = protectWork (envOf i s k) (takenLane i s k) := by
  rw [firstOut, laneWork_eq, if_pos (protection_acted hcount hp)]

theorem outsOf_protected (k : LaneId) : getLane (outsOf i s) k = protectWork (envOf i s k) (takenLane i s k) := by
  rw [outsOf_quiet, firstOut_protected hcount hp]
  rw [firstOut_protected hcount hp]
  unfold protectWork
  split <;> rfl

theorem protected_claims : (finalWork i s).state.composer.claims = Claims.none :=
  finalWork_claims_none fun k => by
    rw [outsOf_protected hcount hp, (protectWork_halts _ _).1]
    nofun

theorem protected_level (x : Phase) : getPhase (finalWork i s).state.composer.lastComposed x = 0 := by
  cases hpresent : present s.control.mode x with
  | false => exact finalWork_level_absent i hpresent
  | true =>
    rw [finalWork_level_default i hpresent (by rw [protected_claims hcount hp]; exact lowestLane_claims_none x)]
    obtain h | h := protection_engine hcount hp <;> rw [h] <;> rfl

theorem protected_command (x : Phase) : getPhase (finalWork i s).state.composer.closeCommand x = false := by
  refine finalWork_command_open i s x ?_
  obtain h | h := protection_engine hcount hp <;> rw [h] <;> decide

theorem protected_shifting : (finalWork i s).state.link.shifting = some (perPhase 0) := by
  rw [finalWork_shifting, if_pos ((shiftsZeros_iff i s).2 (protection_engine hcount hp))]
  rfl

end

/-! #### The flag, the record and the row of the protection (R156, R157) -/

section
variable {i : SampleInputs} {s : State}

theorem act_done {w : Work} {engine : EngineState} {flag : Flag} {record : Record} {what : List Happening}
    (h : settledWork i s = w.act engine flag record what) :
    (finalWork i s).state.window.has flag = true ∧ posted s (finalWork i s).state record = true ∧
      ∀ g ∈ what, g ∈ (finalWork i s).happened := by
  refine ⟨(finalWork_window_settledWork i s).2 flag ?_, posted_control i s record ?_, fun g hg =>
    finalWork_happened_settledWork i s ?_⟩ <;> rw [h, Work.act]
  · simp [setFlag_has]
  · exact List.mem_append_right _ (List.mem_singleton.2 rfl)
  · exact List.mem_append_right _ hg

variable (hcount : 1 ≤ s.measure.tripCount)
include hcount

theorem trip_acted (hp : s.protectionDue i = some .trip) :
    .trip ∈ (finalWork i s).happened ∧ (finalWork i s).state.window.has .trip = true ∧
      ∃ x, s.tripsOn x = true ∧ (x = .B → s.tripsOn .A = false) ∧
        (x = .C → s.tripsOn .A = false ∧ s.tripsOn .B = false) ∧
        posted s (finalWork i s).state ((finalWork i s).state.record none 0xFFFF (.engine .trip .tripped .none (some x)
          (BitVec.ofNat 16 (max (getPhase s.measure.runPeak x) (getPhase s.sampleCodes.i x).natAbs)))) = true := by
  have hreported : s.tripReported = true := by
    unfold State.protectionDue at hp
    have hpresent := List.find?_some hp
    exact hpresent
  obtain ⟨x, hx, hB, hC, hreport⟩ := tripReport_eq (i := i) hcount hreported
  have hact : settledWork i s = (measuredWork i s).act .tripped .trip
      (engineRecord (measuredWork i s).state.timebase .tripped .trip .none (some x)
        (max (getPhase s.measure.runPeak x) (getPhase s.sampleCodes.i x).natAbs)) [.trip] := by
    unfold settledWork Work.protect
    rw [measuredWork_protectionTaken i s hcount, hp]
    dsimp only
    rw [hreport]
    rfl
  obtain ⟨hflag, hposted, hhappened⟩ := act_done hact
  rw [measuredWork_timebase, engineRecord, formRecord_eq i] at hposted
  exact ⟨hhappened _ (List.mem_singleton.2 rfl), hflag, x, hx, hB, hC, hposted⟩

theorem fault_acted (hp : s.protectionDue i = some .fault) :
    (finalWork i s).state.window.has .fault = true ∧
      posted s (finalWork i s).state ((finalWork i s).state.record none 0xFFFF (.engine .fault .faulted .none none 0)) = true := by
  have hact : settledWork i s = (measuredWork i s).act .faulted .fault
      (engineRecord (measuredWork i s).state.timebase .faulted .fault) [] := by
    unfold settledWork Work.protect
    rw [measuredWork_protectionTaken i s hcount, hp]
  obtain ⟨hflag, hposted, -⟩ := act_done hact
  rw [measuredWork_timebase, engineRecord, formRecord_eq i] at hposted
  exact ⟨hflag, hposted⟩

theorem measLost_acted (hp : s.protectionDue i = some .measLost) :
    .measLost ∈ (finalWork i s).happened ∧ (finalWork i s).state.window.has .fault = true ∧
      posted s (finalWork i s).state
        ((finalWork i s).state.record none 0xFFFF (.engine .measLost .faulted .none none 0)) = true := by
  have hact : settledWork i s = (measuredWork i s).act .faulted .fault
      (engineRecord (measuredWork i s).state.timebase .faulted .measLost) [.measLost] := by
    unfold settledWork Work.protect
    rw [measuredWork_protectionTaken i s hcount, hp]
  obtain ⟨hflag, hposted, hhappened⟩ := act_done hact
  rw [measuredWork_timebase, engineRecord, formRecord_eq i] at hposted
  exact ⟨hhappened _ (List.mem_singleton.2 rfl), hflag, hposted⟩

end

/-- Settles O38: the act of the protection taken, and under it the work of each lane, each watch and each relay. -/
theorem protectionStopsTheRun : Obligations.ProtectionStopsTheRun := by
  unfold Obligations.ProtectionStopsTheRun
  intro i s hrst hquiet hcount p hp
  have hengine := settledWork_engine i s hcount
  rw [hp, ← finalWork_engine] at hengine
  refine ⟨_, event_eq i s hrst hquiet, ?_, ?_, ?_, fun k => ⟨?_, ?_, fun hstate => ?_⟩, ?_, ?_, protected_claims hcount hp,
    finalWork_slotDue i s hcount,
    fun x => ⟨protected_level hcount hp x, protected_command hcount hp x, fun hpresent => ?_⟩, protected_shifting hcount hp⟩
  · rintro rfl
    obtain ⟨hhappened, hflag, hreport⟩ := trip_acted hcount hp
    exact ⟨row_eq i s _ hrst hquiet hhappened, hengine, hflag, hreport⟩
  · rintro rfl
    exact ⟨hengine, fault_acted hcount hp⟩
  · rintro rfl
    obtain ⟨hhappened, hflag, hposted⟩ := measLost_acted hcount hp
    exact ⟨row_eq i s _ hrst hquiet hhappened, hengine, hflag, hposted⟩
  · refine finalWork_lane_of (k := k) (P := fun l => l.state = .halted) fun n => ?_
    rw [outsOf_protected hcount hp]
    exact (protectWork_halts _ _).1
  · refine armed_eq k (by rw [outsOf_protected hcount hp]; exact (protectWork_halts _ _).2.1) ?_
    rw [watchOf, protection_acted hcount hp]
    exact watch_protected _ _ _ _ _ _ _
  · refine finalWork_lane_of (k := k) (P := fun l => l.current = none ∧ l.next = .empty ∧ l.request = none ∧
      l.pendingStop = false) fun n => ?_
    rw [outsOf_protected hcount hp,
      ((protectWork_halts _ (takenLane i s k)).2.2 (by rw [(takenLane_kept i s k).1]; exact hstate)).1]
    exact ⟨rfl, rfl, rfl, rfl⟩
  · intro k ep hstate hcurrent
    refine posted_outsOf (k := k) ?_
    rw [outsOf_protected hcount hp, ((protectWork_halts _ (takenLane i s k)).2.2
      (by rw [(takenLane_kept i s k).1, hstate]; nofun)).2, cut_eq hstate hcurrent]
    exact List.mem_singleton.2 rfl
  · intro k w current inBand counted harmed
    have hwork : watchOf i s k = w.sampleWork (s.timebase.tick s.control.mode) k (finalWork i s).state.measure.figures
        s.cycleStartDue s.releaseDue true (getLane i.watchFirst k) := by rw [watchOf, protection_acted hcount hp]
    refine ⟨fun huncounted => ?_, fun ⟨hcycle, hfirst, hrelease⟩ hhold hlimit => ?_⟩
    · have hmem := sampleWork_abandons (tb := s.timebase.tick s.control.mode) (k := k)
        (figures := (finalWork i s).state.measure.figures) (cycleStart := s.cycleStartDue) (released := s.releaseDue)
        (protection := true) (first := getLane i.watchFirst k) harmed (.inr rfl) huncounted
      rw [← hwork, watchRecord_eq i] at hmem
      exact posted_watchOf hmem
    · have hcounted : w.counted (finalWork i s).state.measure.figures =
          { w with
            cycles := w.cycles + 1, lastRms := some current, inBand := inBand
            runStart := if inBand = 1 then w.cycles + 1 else w.runStart } := count_eq w current
      have hmem := sampleWork_counts_and_abandons (tb := s.timebase.tick s.control.mode) (k := k)
        (figures := (finalWork i s).state.measure.figures) harmed (by rw [hcounted]; exact hhold)
        (by rw [hcounted]; exact hlimit)
      rw [hcycle, hfirst, hrelease] at hwork
      rw [← hwork, watchRecord_eq i, hcounted] at hmem
      exact posted_watchOf hmem
  · rw [finalWork_relay, if_pos hpresent, protected_command hcount hp, protection_acted hcount hp]
    exact command_of_protection _ _ _

end Sys2Proof.Machine
end

section
/-! ### A pending stop, and a lane that waits (R50, R54, R66) -/

namespace Sys2Proof.Machine

/-! #### The work of a WAITING lane by its trigger (R50 to R54) -/

section
variable {e : SampleEnv} {ep : Episode} {l : Lane}

theorem waitingWork_outside (h : e.engine ≠ .running) : waitingWork e ep l = { lane := l.evaluating } := by
  unfold waitingWork
  dsimp only
  rw [if_neg h]
  rfl

theorem waitingWork_cascade (h : e.engine = .running) {j : LaneId} (htrigger : ep.trigger = .cascade j) :
    waitingWork e ep l = { lane := l.evaluating, listening := some j } := by
  unfold waitingWork
  dsimp only
  rw [if_pos h, htrigger]
  rfl

theorem waitingWork_met (h : e.engine = .running) (htrigger : ∀ j, ep.trigger ≠ .cascade j) (hmet : triggerMet e ep = true) :
    waitingWork e ep l = fire e ep l.evaluating := by
  unfold waitingWork
  dsimp only
  rw [if_pos h]
  split
  next j hj => exact absurd hj (htrigger j)
  next => rw [if_pos hmet]; rfl

theorem waitingWork_unmet (h : e.engine = .running) (htrigger : ∀ j, ep.trigger ≠ .cascade j) (hmet : triggerMet e ep = false) :
    waitingWork e ep l =
      { lane := { l.evaluating with evaluated := l.evaluated || ep.trigger.evaluatedAt e.cycleStart } } := by
  unfold waitingWork
  dsimp only
  rw [if_pos h]
  split
  next j hj => exact absurd hj (htrigger j)
  next => rw [hmet, if_neg Bool.false_ne_true]; rfl

end

theorem envOf_engine_of_runs {i : SampleInputs} {s : State} {j : LaneId} (hcount : 1 ≤ s.measure.tripCount)
    (hruns : s.laneRuns i j = true) : (envOf i s j).engine = s.openedState := by
  rw [envOf_engine, (runs_eq i s j hcount hruns).2.2.2.2.2]

section
variable {i : SampleInputs} {s : State} {j k : LaneId} {ep : Episode} (hcount : 1 ≤ s.measure.tripCount)
  (hruns : s.laneRuns i j = true) (hstate : (getLane s.lanes j).state = .waiting)
  (hcurrent : (getLane s.lanes j).current = some ep)
include hcount hruns hstate hcurrent

theorem outsOf_outside (h : s.openedState ≠ .running) :
    getLane (outsOf i s) j = { lane := (getLane s.lanes j).evaluating } := by
  have hfirst : firstOut i s j = { lane := (getLane s.lanes j).evaluating } := by
    rw [firstOut_waiting hcount hruns hstate hcurrent,
      waitingWork_outside (by rw [envOf_engine_of_runs hcount hruns]; exact h)]
  rw [outsOf_quiet (by rw [hfirst]), hfirst]

variable (htrigger : ep.trigger = .cascade k)
include htrigger

theorem firstOut_listens (h : s.openedState = .running) :
    firstOut i s j = { lane := (getLane s.lanes j).evaluating, listening := some k } := by
  rw [firstOut_waiting hcount hruns hstate hcurrent,
    waitingWork_cascade (by rw [envOf_engine_of_runs hcount hruns]; exact h) htrigger]

/-- A lane WAITING on a CASCADE of a lane that makes no last END waits on (R54). -/
theorem outsOf_cascade_waits (hend : (firstOut i s k).lastEnd = false)
    (hsilent : (firstOut i s k).listening = none ∨ k = j) :
    (getLane (outsOf i s) j).lane =
      { getLane s.lanes j with
        evaluationMark := true, evaluated := (getLane s.lanes j).evaluated || decide (s.openedState = .running) } := by
  by_cases h : s.openedState = .running
  · have hfirst := firstOut_listens hcount hruns hstate hcurrent htrigger h
    rw [outsOf_unheard (by rw [hfirst]) hend hsilent, hfirst, decide_eq_true h, Bool.or_true]
    rfl
  · rw [outsOf_outside hcount hruns hstate hcurrent h, decide_eq_false h, Bool.or_false]
    rfl

end

/-! #### A pending stop (R66) -/

section
variable {i : SampleInputs} {s : State} {k : LaneId} (hcount : 1 ≤ s.measure.tripCount) (hsafe : s.unprotected i = true)
  (hstop : (getLane s.lanes k).pendingStop = true) (hstate : (getLane s.lanes k).state ≠ .halted)
include hcount hsafe hstop hstate

/-- What a stop carried out makes of the lane, whether or not a RELEASE is acted on before it. -/
theorem firstOut_stopped : ∃ m : Lane, firstOut i s k =
    { lane := m.halted
      records := cut (envOf i s k) (takenLane i s k) ++
        [(envOf i s k).record (if s.releaseDue then noEpisode else currentIndex (takenLane i s k)) (.laneHalted .stopped)]
      discards := true
      happened := [.stopped] } := by
  obtain ⟨hs, -, -, -, hp, -⟩ := takenLane_kept i s k
  rw [firstOut, laneWork_eq, settledWork_protection i s hcount, hsafe, Bool.not_true, if_neg Bool.false_ne_true]
  cases s.releaseDue with
  | true =>
    refine ⟨{ (takenLane i s k).emptied with state := .idle }, ?_⟩
    rw [if_pos rfl, releaseWork, if_neg (by rw [hs]; exact hstate)]
    simp only [LaneOut.andThen]
    rw [if_pos (show ({ (takenLane i s k).emptied with state := .idle } : Lane).pendingStop = true from hp.trans hstop)]
    rfl
  | false =>
    refine ⟨takenLane i s k, ?_⟩
    rw [if_neg Bool.false_ne_true, if_pos (hp.trans hstop)]
    rfl

end

/-- Settles O39: the stop's own work, with or without a RELEASE before it; it makes no END for another lane to hear. -/
theorem pendingStopIsCarriedOut : Obligations.PendingStopIsCarriedOut := by
  unfold Obligations.PendingStopIsCarriedOut
  intro k i s hrst hquiet hcount hsafe hstop hstate
  obtain ⟨m, hfirst⟩ := firstOut_stopped hcount hsafe hstop hstate
  have hout : getLane (outsOf i s) k = firstOut i s k := outsOf_quiet (by rw [hfirst])
  have hlane : (getLane (finalWork i s).state.lanes k).state = .halted ∧
      (getLane (finalWork i s).state.lanes k).pendingStop = false ∧
      (getLane (finalWork i s).state.lanes k).current = none ∧
      (getLane (finalWork i s).state.lanes k).next = .empty ∧
      (getLane (finalWork i s).state.lanes k).request = none := by
    refine finalWork_lane_of (k := k) (P := fun l => l.state = .halted ∧ l.pendingStop = false ∧ l.current = none ∧
      l.next = .empty ∧ l.request = none) fun n => ?_
    rw [hout, hfirst]
    exact ⟨rfl, rfl, rfl, rfl, rfl⟩
  obtain ⟨hhalted, hcleared, hcurrent, hnext, hrequest⟩ := hlane
  refine ⟨_, row_eq i s _ hrst hquiet (lanedWork_happened i s k .stopped (by rw [hout, hfirst]; exact List.mem_singleton.2 rfl)),
    event_eq i s hrst hquiet, hhalted, hcleared, hcurrent, hnext, hrequest, finalWork_slotDue i s hcount, ?_, ?_, ?_⟩
  · have hposted := posted_outsOf (i := i) (s := s) (k := k) (by
      rw [hout, hfirst]; exact List.mem_append_right _ (List.mem_singleton.2 rfl))
    rw [LaneEnv.record, envOf_timebase, formRecord_eq i, currentIndex, (takenLane_kept i s k).2.1] at hposted
    exact hposted
  · intro ep hactive hep
    refine posted_outsOf (k := k) ?_
    rw [hout, hfirst, cut_eq hactive hep]
    exact List.mem_append_left _ (List.mem_singleton.2 rfl)
  · intro j ep hruns hwaiting hep htrigger
    refine finalWork_lane_of (k := j) (P := fun l => l.state = .waiting ∧ l.application = (getLane s.lanes j).application)
      fun n => ?_
    rw [outsOf_cascade_waits hcount hruns hwaiting hep htrigger (by rw [hfirst]) (.inl (by rw [hfirst]))]
    exact ⟨hwaiting, rfl⟩

end Sys2Proof.Machine
end

section
/-! ### The working values of an application (R57 to R59) -/

namespace Sys2Proof.Machine

theorem stageAt_of_lt {ep : Episode} {p : Nat} (h : p < ep.duration) :
    stageAt ep p = some (if p < ep.entry then .entry else if p < ep.duration - ep.exit then .hold else .exit) := by
  unfold stageAt
  rw [if_neg (Nat.not_le.2 h)]
  split
  · rfl
  · split <;> rfl

theorem stageAt_of_le {ep : Episode} {p : Nat} (h : ep.duration ≤ p) : stageAt ep p = none := if_pos h

theorem takenLane_eq (i : SampleInputs) (s : State) (k : LaneId) : takenLane i s k =
    { getLane s.lanes k with rmsMin := (takenLane i s k).rmsMin, rmsMax := (takenLane i s k).rmsMax } := by
  unfold takenLane Lane.takeRms
  dsimp only
  split
  · split
    · split <;> rfl
    · rfl
  · rfl

/-- The stage of an application that goes on is that of its advance (R57). -/
theorem active_stage {i : SampleInputs} {s : State} {k : LaneId} {ep : Episode}
    (hlt : s.advanceDue k < ep.duration) :
    stageAt ep ((takenLane i s k).advanced (envOf i s k).advance).phaseAdvance =
      some (if s.advanceDue k < ep.entry then .entry
        else if s.advanceDue k < ep.duration - ep.exit then .hold else .exit) := by
  rw [envOf_advance, advanced_eq, stageAt_of_lt hlt]

section
variable {i : SampleInputs} {s : State} {k : LaneId} {ep : Episode} (hcount : 1 ≤ s.measure.tripCount)
  (hruns : s.laneRuns i k = true) (hcurrent : (getLane s.lanes k).current = some ep)
include hcount hruns hcurrent

/-- A WAITING lane waits on, or leaves the sample event as its firing leaves it (R50 to R57). -/
theorem outsOf_waiting_cases (hstate : (getLane s.lanes k).state = .waiting) :
    (getLane (outsOf i s) k).lane.state = .waiting ∨
      (getLane (outsOf i s) k).lane = (fire (envOf i s k) ep (getLane s.lanes k).evaluating).lane := by
  have hwork := firstOut_waiting hcount hruns hstate hcurrent
  obtain ⟨hwaits, hquiet⟩ | hfires | ⟨j, -, -, hlistens⟩ := waitingWork_cases (envOf i s k) ep (getLane s.lanes k)
  · rw [← hwork] at hwaits hquiet
    exact .inl (by rw [outsOf_quiet hquiet, hwaits, hstate])
  · rw [← hwork] at hfires
    exact .inr (by rw [outsOf_quiet (by rw [hfires]; exact fire_listening _ _ _), hfires])
  · rw [← hwork] at hlistens
    obtain hcase | hcase := outsOf_listening_cases (i := i) (s := s) (k := k) (j := j) (ep := ep)
      (by rw [hlistens]) (by rw [hlistens]; exact hcurrent)
    · exact .inl (by rw [hcase, hlistens]; exact hstate)
    · exact .inr (by rw [hcase, hlistens]; rfl)

/-- A lane that is ACTIVE at its trigger sample stands in the stage of an advance of 0 (R57). -/
theorem outsOf_begins (hstate : (getLane s.lanes k).state = .waiting)
    (hactive : (getLane (outsOf i s) k).lane.state = .active) :
    0 < ep.duration ∧ (getLane (outsOf i s) k).lane =
      (begunAt (envOf i s k) ep (getLane s.lanes k).evaluating).inStage ep s.composer.steady
        (if 0 < ep.entry then .entry else if 0 < ep.duration - ep.exit then .hold else .exit) 0 true := by
  obtain hwaits | hfires := outsOf_waiting_cases hcount hruns hcurrent hstate
  · rw [hwaits] at hactive
    cases hactive
  · rw [hfires] at hactive ⊢
    by_cases hduration : 0 < ep.duration
    · rw [fire_of_stage (stageAt_of_lt hduration), envOf_steady]
      exact ⟨hduration, rfl⟩
    · rw [fire_of_end (stageAt_of_le (Nat.not_lt.1 hduration))] at hactive
      exact absurd hactive (endApplication_not_active _ _ _)

end

/-! #### The flicker factor (R59) -/

/-- Settles O43: the trigger sample sets factor and countdown, and each later sample takes one flicker step. -/
theorem flickerFactorAlternates : Obligations.FlickerFactorAlternates := by
  unfold Obligations.FlickerFactorAlternates
  intro k i s ep depth rate interval hquiet hcount hruns hcurrent hkind
  have hrst := (runs_eq i s k hcount hruns).1
  refine ⟨fun hstate => ⟨_, event_eq i s hrst hquiet, ?_⟩, fun hstate hlt => ?_⟩
  · refine finalWork_lane_of (k := k) (P := fun l => l.state = .active → l.factor = 10000 + depth ∧ l.countdown = interval)
      fun n hactive => ?_
    obtain ⟨-, hlane⟩ := outsOf_begins hcount hruns hcurrent hstate hactive
    rw [hlane, inStage_kept]
    simp [Lane.addClips, begunAt, Lane.begun, hkind]
  · have hstage := active_stage (i := i) hlt
    have hout : getLane (outsOf i s) k = _ := (outsOf_active hcount hruns hstate hcurrent).trans
      (activeWork_of_flicker hkind hstage)
    rw [inStage_kept, takenLane_eq] at hout
    refine ⟨fun hdone => ⟨_, row_eq i s _ hrst hquiet (lanedWork_happened i s k .flickerChange ?_), event_eq i s hrst hquiet, ?_⟩,
      fun hruns => ⟨_, event_eq i s hrst hquiet, ?_⟩⟩
    · rw [hout]
      simp [Lane.flickerStep, Lane.advanced, hdone]
    · refine finalWork_lane_of (k := k) (P := fun l => l.state = .active ∧ l.countdown = interval ∧
        ((getLane s.lanes k).factor = 10000 + depth → l.factor = 10000 - depth) ∧
        ((getLane s.lanes k).factor ≠ 10000 + depth → l.factor = 10000 + depth)) fun n => ?_
      rw [hout]
      simp only [Lane.flickerStep, Lane.advanced, hdone, if_true, Lane.addClips]
      exact ⟨hstate, by trivial, fun h => if_pos h, fun h => if_neg h⟩
    · refine finalWork_lane_of (k := k) (P := fun l => l.state = .active ∧ l.countdown + 1 = (getLane s.lanes k).countdown ∧
        l.factor = (getLane s.lanes k).factor) fun n => ?_
      have hgoes : ¬ (getLane s.lanes k).countdown ≤ 1 := by omega
      rw [hout]
      simp only [Lane.flickerStep, Lane.advanced, hgoes, if_false, Lane.addClips]
      exact ⟨hstate, by omega, by trivial⟩

/-! #### The ramps of a LEVEL application (R58) -/

section
variable {l : Lane} {ep : Episode} {steady : PerPhase Nat} {target p : Nat} (hkind : ep.kind = .level target)
include hkind

theorem inStage_level (stage : Stage) (atTrigger : Bool) (x : Phase) :
    (l.inStage ep steady stage p atTrigger).exitOrigin = exitOrigins l target stage atTrigger ∧
      getPhase (l.inStage ep steady stage p atTrigger).envelope x =
        if getPhase ep.mask x then
          levelEnvelope ep target stage p (getPhase l.start x) (getPhase (exitOrigins l target stage atTrigger) x)
            (Int.ofNat (getPhase steady x))
        else 0 := by
  unfold Lane.inStage
  rw [hkind]
  exact ⟨rfl, getPhase_tabPhase _ _⟩

/-- ENTRY leads from the start value to the target. -/
theorem inStage_entry (atTrigger : Bool) (x : Phase) :
    getPhase (l.inStage ep steady .entry p atTrigger).envelope x =
      if getPhase ep.mask x then getPhase l.start x + Int.tdiv ((target - getPhase l.start x) * p) ep.entry else 0 :=
  (inStage_level hkind .entry atTrigger x).2

/-- HOLD keeps the target. -/
theorem inStage_hold (atTrigger : Bool) (x : Phase) :
    getPhase (l.inStage ep steady .hold p atTrigger).envelope x = if getPhase ep.mask x then (target : Int) else 0 :=
  (inStage_level hkind .hold atTrigger x).2

/-- EXIT leads from the exit origin toward the steady level. -/
theorem inStage_exit (x : Phase) :
    (l.inStage ep steady .exit p false).exitOrigin = (if l.stage = some .exit then l.exitOrigin else l.envelope) ∧
      getPhase (l.inStage ep steady .exit p false).envelope x =
        if getPhase ep.mask x then
          getPhase (l.inStage ep steady .exit p false).exitOrigin x +
            Int.tdiv ((getPhase steady x - getPhase (l.inStage ep steady .exit p false).exitOrigin x) *
              (p - (ep.duration - ep.exit) : Nat)) ep.exit
        else 0 := by
  obtain ⟨horigin, henvelope⟩ := inStage_level (l := l) (steady := steady) (p := p) hkind .exit false x
  refine ⟨?_, by rw [henvelope, horigin]; rfl⟩
  rw [horigin, exitOrigins]
  by_cases h : l.stage = some .exit <;> simp [h]

/-- EXIT at the trigger sample holds the target there. -/
theorem inStage_exit_atTrigger (hlate : p ≤ ep.duration - ep.exit) (hstage : l.stage ≠ some .exit) (x : Phase) :
    getPhase (l.inStage ep steady .exit p true).envelope x = if getPhase ep.mask x then (target : Int) else 0 := by
  have hzero : p - (ep.duration - ep.exit) = 0 := by omega
  rw [(inStage_level hkind .exit true x).2]
  simp [levelEnvelope, rampPoint, truncDiv, exitOrigins, hstage, hzero]

end

/-- Settles O42: an ACTIVE lane stands in the stage of its advance, and each stage gives its envelope. -/
theorem levelWorkingValuesFollowTheRamps : Obligations.LevelWorkingValuesFollowTheRamps := by
  unfold Obligations.LevelWorkingValuesFollowTheRamps
  intro k i s ep target hquiet hcount hruns hcurrent hkind
  have hrst := (runs_eq i s k hcount hruns).1
  refine ⟨_, event_eq i s hrst hquiet, ?_⟩
  dsimp only
  obtain ⟨n, hfinal⟩ := finalWork_lane' i s k
  rw [hfinal]
  refine ⟨fun hstate hlt => ?_, fun hstate hactive => ?_⟩
  · have hout := (outsOf_active hcount hruns hstate hcurrent).trans
      (activeWork_of_stage (active_stage (i := i) hlt) (fun d r m h => by rw [hkind] at h; cases h))
    rw [envOf_steady, envOf_advance, advanced_eq] at hout
    obtain ⟨hs, hc, hstart, hstage, henvelope, horigin⟩ : ((takenLane i s k).advanced s.incrementDue).state = .active ∧
        ((takenLane i s k).advanced s.incrementDue).current = some ep ∧
        ((takenLane i s k).advanced s.incrementDue).start = (getLane s.lanes k).start ∧
        ((takenLane i s k).advanced s.incrementDue).stage = (getLane s.lanes k).stage ∧
        ((takenLane i s k).advanced s.incrementDue).envelope = (getLane s.lanes k).envelope ∧
        ((takenLane i s k).advanced s.incrementDue).exitOrigin = (getLane s.lanes k).exitOrigin := by
      rw [takenLane_eq]
      exact ⟨hstate, hcurrent, rfl, rfl, rfl, rfl⟩
    generalize (takenLane i s k).advanced s.incrementDue = m at *
    rw [hout]
    refine ⟨by rw [inStage_kept]; exact hs, by rw [inStage_kept]; exact hc, by rw [inStage_kept]; exact hstart,
      fun hentry => ?_, fun hentry hhold => ?_, fun hentry hexit => ?_⟩
    · rw [if_pos hentry]
      refine ⟨by rw [inStage_kept]; rfl, fun x => ?_⟩
      rw [← hstart]
      exact inStage_entry hkind false x
    · rw [if_neg (Nat.not_lt.2 hentry), if_pos hhold]
      exact ⟨by rw [inStage_kept]; rfl, fun x => inStage_hold hkind false x⟩
    · rw [if_neg (Nat.not_lt.2 hentry), if_neg (Nat.not_lt.2 hexit), ← hstage, ← horigin, ← henvelope]
      exact ⟨by rw [inStage_kept]; rfl, (inStage_exit hkind .A).1, fun x => (inStage_exit hkind x).2⟩
  · obtain ⟨hduration, hlane⟩ := outsOf_begins hcount hruns hcurrent hstate hactive
    have hstart : ∀ x, getPhase (begunAt (envOf i s k) ep (getLane s.lanes k).evaluating).start x =
        if getPhase ep.mask x then getPhase s.composer.lastComposed x else 0 := by
      intro x
      simp only [begunAt, Lane.begun, startValues, getPhase_tabPhase, envOf_lastComposed]
    have hkept : (begunAt (envOf i s k) ep (getLane s.lanes k).evaluating).current = some ep ∧
        (begunAt (envOf i s k) ep (getLane s.lanes k).evaluating).stage = none := ⟨hcurrent, rfl⟩
    generalize begunAt (envOf i s k) ep (getLane s.lanes k).evaluating = m at *
    obtain ⟨hc, hstage⟩ := hkept
    rw [hlane]
    refine ⟨by rw [inStage_kept]; exact hc, fun x => by rw [inStage_kept]; exact hstart x, fun hentry => ?_,
      fun hentry hexit => ?_, fun hentry hexit => ?_⟩
    · rw [if_pos hentry]
      refine ⟨by rw [inStage_kept]; rfl, perPhase_ext fun x => ?_⟩
      have henvelope := inStage_entry (l := m) (steady := s.composer.steady) (p := 0) hkind true x
      have hsame : getPhase (m.inStage ep s.composer.steady .entry 0 true).start x = getPhase m.start x := by
        rw [inStage_kept]
      refine henvelope.trans (Eq.trans ?_ hsame.symm)
      rw [hstart]
      split <;> simp
    · rw [if_neg (by omega), if_pos (by omega)]
      exact ⟨by rw [inStage_kept]; rfl, fun x => inStage_hold hkind true x⟩
    · rw [if_neg (by omega), if_neg (by omega)]
      exact ⟨by rw [inStage_kept]; rfl, fun x => inStage_exit_atTrigger hkind (by omega) (by rw [hstage]; nofun) x⟩

end Sys2Proof.Machine
end

section
/-! ### What a lane's work hands on at a sample event (R40, R56, R62, R143) -/

namespace Sys2Proof.Machine

/-- The sample event delivers what a lane's work hands on: the lane, its clips apart, its records, FLAGS.PLAN and the
marker request. -/
structure Delivers (i : SampleInputs) (s : State) (k : LaneId) (o : LaneOut) : Prop where
  lane : ∃ n, getLane (finalWork i s).state.lanes k = o.lane.addClips n
  records : ∀ r ∈ o.records, posted s (finalWork i s).state r = true
  plan : o.plan = true → (finalWork i s).state.window.has .plan = true
  marker : o.marker = true → (finalWork i s).state.link.markerRequest1 = true

section
variable {i : SampleInputs} {s : State} {k : LaneId}

theorem finalWork_plan (h : (getLane (outsOf i s) k).plan = true) : (finalWork i s).state.window.has .plan = true := by
  have hwindow : (finalWork i s).state.window = (lanedWork i (settledWork i s)).state.window := by
    simp [finalWork, perform_composedWork, composedWork]
  have hany : (allLanes.any fun k => (getLane (outsOf i s) k).plan) = true := List.any_eq_true.2 ⟨k, mem_allLanes k, h⟩
  have houts : (((settledWork i s).watches i).advanceRelays).state.lanes = s.lanes := by
    rw [Work.advanceRelays_lanes, Work.watches_lanes, settledWork_lanes]
  rw [hwindow, lanedWork, Work.lanes]
  dsimp only
  rw [houts, show (allLanes.any fun k => (getLane (lanesWork (tabLane
    ((((settledWork i s).watches i).advanceRelays).sampleEnv i)) s.lanes) k).plan) = true from hany, Window.setFlagIf_true,
    setFlag_has, Bool.or_eq_true]
  exact .inr (by decide)

theorem finalWork_markerRequest (h : (getLane (outsOf i s) k).marker = true) :
    (finalWork i s).state.link.markerRequest1 = true := by
  have houts : (((settledWork i s).watches i).advanceRelays).state.lanes = s.lanes := by
    rw [Work.advanceRelays_lanes, Work.watches_lanes, settledWork_lanes]
  rw [finalWork_link_eq]
  show (lanedWork i (settledWork i s)).markerRequest = true
  rw [lanedWork, Work.lanes]
  dsimp only
  rw [houts]
  exact List.any_eq_true.2 ⟨k, mem_allLanes k, h⟩

theorem delivers_of_outsOf {o : LaneOut} (h : getLane (outsOf i s) k = o) : Delivers i s k o where
  lane := by rw [← h]; exact finalWork_lane' i s k
  records := by rw [← h]; exact fun r hr => posted_outsOf hr
  plan := by rw [← h]; exact finalWork_plan
  marker := by rw [← h]; exact finalWork_markerRequest

/-- Of work that follows other work the second part is delivered. -/
theorem Delivers.second {o : LaneOut} {f : Lane → LaneOut} (h : Delivers i s k (o.andThen f)) : Delivers i s k (f o.lane) where
  lane := h.lane
  records r hr := h.records r (List.mem_append_right _ hr)
  plan hplan := h.plan (by simp only [LaneOut.andThen, hplan, Bool.or_true])
  marker hmarker := h.marker (by simp only [LaneOut.andThen, hmarker, Bool.or_true])

theorem Delivers.first_records {o : LaneOut} {f : Lane → LaneOut} (h : Delivers i s k (o.andThen f)) :
    ∀ r ∈ o.records, posted s (finalWork i s).state r = true := fun r hr => h.records r (List.mem_append_left _ hr)

theorem envOf_record (index : Half) (body : RecordBody) :
    (envOf i s k).record index body = (finalWork i s).state.record (some k) index body := by
  rw [LaneEnv.record, envOf_timebase, formRecord_eq i]
  rfl

end

/-! #### Acting on the next slot (R48) -/

section
variable {i : SampleInputs} {s : State} {k : LaneId} {l : Lane}

/-- The slots as a lane that has ended its episode acts on them. -/
theorem actOnNextSlot_loaded {e : LaneEnv} {ep : Episode} (h : l.next = .loaded ep) :
    actOnNextSlot e l = becomeCurrent e false ep { l with current := none, stage := none } := by
  unfold actOnNextSlot
  dsimp only
  rw [h]

theorem actOnNextSlot_fetching {e : LaneEnv} (h : l.next = .fetching) :
    actOnNextSlot e l =
      { lane := { l with current := none, stage := none, state := .fetching, next := .empty, late := true } } := by
  unfold actOnNextSlot
  dsimp only
  rw [h]

theorem actOnNextSlot_empty {e : LaneEnv} (h : l.next = .empty) :
    actOnNextSlot e l = cueTest e { l with current := none, stage := none, state := .idle, late := false } := by
  unfold actOnNextSlot
  dsimp only
  rw [h]

theorem actOnNextSlot_refused {e : LaneEnv} {cause : Refused} {index : Half} (h : l.next = .refused cause index) :
    actOnNextSlot e l =
      { lane := { l with current := none, stage := none : Lane }.halted, records := [e.record index (.laneHalted cause)] } := by
  unfold actOnNextSlot
  dsimp only
  rw [h]

theorem actOnNextSlot_lastEnd (e : LaneEnv) (l : Lane) : (actOnNextSlot e l).lastEnd = false := by
  have hcue : ∀ m, (cueTest e m).lastEnd = false := by
    intro m
    unfold cueTest refuse
    repeat' split
    all_goals rfl
  unfold actOnNextSlot
  dsimp only
  split
  · rw [becomeCurrent_eq]
    split
    · rfl
    · exact hcue _
  · rfl
  · exact hcue _
  · rfl

variable (hengine : (envOf i s k).engine = s.openedState) (hstop : l.pendingStop = false)
  (hbefore : (getLane s.lanes k).pendingStop = false) (hnext : l.next = (getLane s.lanes k).next)
include hengine hstop hbefore hnext

theorem Delivers.actsOnNextIn (h : Delivers i s k (actOnNextSlot (envOf i s k).toLaneEnv l)) :
    s.actsOnNextIn (finalWork i s).state k := by
  unfold State.actsOnNextIn
  dsimp only
  rw [← hnext]
  refine ⟨fun ep hloaded => ?_, fun hfetching => ?_, fun cause index hrefused => ?_, fun hempty => ?_⟩
  · rw [actOnNextSlot_loaded hloaded] at h
    have hfills : ∀ stop, stop = l.pendingStop → FillsNext (envOf i s k).toLaneEnv stop ep
        (becomeCurrent (envOf i s k).toLaneEnv false ep { l with current := none, stage := none }) := by
      rintro _ rfl
      exact becomeCurrent_fills _ false ep { l with current := none, stage := none }
    obtain ⟨next, request, hbecome⟩ := becomeCurrent_lane (envOf i s k).toLaneEnv false ep
      { l with current := none, stage := none }
    obtain ⟨n, hlane⟩ := h.lane
    have hfilled := (hfills _ (hbefore.trans hstop.symm)).fillsNextIn (t := (finalWork i s).state) (envOf_posted i s k) (envOf_taken i s k)
      (by rw [hlane]; rfl) (by rw [hlane]; rfl) h.plan h.records envOf_record
    rw [hengine] at hfilled
    rw [hlane, hbecome]
    exact ⟨rfl, rfl, rfl, rfl, rfl, hfilled⟩
  · rw [actOnNextSlot_fetching hfetching] at h
    obtain ⟨n, hlane⟩ := h.lane
    rw [hlane]
    exact ⟨rfl, rfl, rfl⟩
  · rw [actOnNextSlot_refused hrefused] at h
    obtain ⟨n, hlane⟩ := h.lane
    rw [hlane]
    refine ⟨rfl, rfl, ?_⟩
    have hposted := h.records _ (List.mem_singleton.2 rfl)
    rw [envOf_record] at hposted
    exact hposted
  · rw [actOnNextSlot_empty hempty] at h
    have hahead : cueDistance (envOf i s k).posted (envOf i s k).taken = s.cueAhead k := by
      rw [envOf_posted, envOf_taken]; rfl
    have hneeds : ({ l with current := none, stage := none, state := .idle, late := false } : Lane).needsEpisode = true := rfl
    have hpending : ({ l with current := none, stage := none, state := .idle, late := false } : Lane).pendingStop = false :=
      hstop
    rw [← hengine, ← hahead]
    obtain ⟨n, hlane⟩ := h.lane
    rw [hlane]
    refine ⟨fun hnone => ?_, fun hopen hlow hhigh => ?_, fun hopen hfar => ?_⟩
    · rw [cueTest_idle (hnone.imp (fun hclosed hopen => by rw [hclosed] at hopen; cases hopen.1) .inl)]
      rfl
    · rw [(cueTest_of_needs hopen hneeds).2.1 hlow hhigh, (Lane.requestCue_spec _).2.1 hpending rfl]
      exact ⟨rfl, rfl, rfl⟩
    · obtain ⟨hplan, hidle, -⟩ := cueTest_far ⟨hopen, hneeds⟩ hfar
      obtain ⟨hhalted, hrecords⟩ := hidle rfl
      have hposted := h.records
      rw [hrecords] at hposted
      have hrefused := hposted _ (List.mem_cons_self ..)
      have hstopped := hposted _ (List.mem_cons_of_mem _ (List.mem_singleton.2 rfl))
      rw [envOf_record, envOf_taken] at hrefused
      rw [envOf_record] at hstopped
      rw [hhalted]
      exact ⟨rfl, rfl, ⟨h.plan hplan, hrefused⟩, hstopped⟩

end

/-! #### Arming the watch (R143) -/

section
variable {i : SampleInputs} {s : State} {k : LaneId} (hcount : 1 ≤ s.measure.tripCount) (hruns : s.laneRuns i k = true)
include hcount hruns

theorem watchOf_runs : watchOf i s k =
    if s.cycleStartDue then
      (getLane s.watches k).cycleWork (s.timebase.tick s.control.mode) k (finalWork i s).state.measure.figures
    else { slot := getLane s.watches k } := by
  obtain ⟨-, hrelease, hsafe, -⟩ := runs_eq i s k hcount hruns
  rw [watchOf, hrelease, settledWork_protection i s hcount, hsafe]
  unfold Watch.sampleWork
  cases getLane i.watchFirst k <;> cases s.cycleStartDue <;> simp [WatchOut.andThen]

/-- A slot that is IDLE stays so until it is armed. -/
theorem watchOf_idle (h : (getLane s.watches k).armed = false) : (watchOf i s k).slot.armed = false := by
  rw [watchOf_runs hcount hruns]
  split
  · rw [cycle_idle _ _ _ _ h, h]
  · exact h

/-- The slot that an arming finds ARMED, its cycle counted where the sample event is a cycle start. -/
theorem watchOf_goes_on (harmed : (getLane s.watches k).armed = true) :
    (s.cycleStartDue = false → (watchOf i s k).slot = getLane s.watches k) ∧
      (s.cycleStartDue = true →
        ((getLane s.watches k).counted (finalWork i s).state.measure.figures).inBand < (getLane s.watches k).part.hold →
        ((getLane s.watches k).counted (finalWork i s).state.measure.figures).cycles < (getLane s.watches k).part.limit →
        (watchOf i s k).slot = (getLane s.watches k).counted (finalWork i s).state.measure.figures) := by
  rw [watchOf_runs hcount hruns]
  refine ⟨fun hcycle => by rw [hcycle]; rfl, fun hcycle hhold hlimit => ?_⟩
  rw [if_pos hcycle, cycleWork_armed _ k _ harmed, if_neg (Nat.not_le.2 hhold), if_neg (Nat.not_le.2 hlimit)]

theorem outsOf_armsIn {ep : Episode} {part : WatchPart} {iref : Nat}
    (harming : (getLane (outsOf i s) k).arming =
      some { episode := ep.index, reference := ep.reference, iref := iref, part := part }) :
    s.armsIn (finalWork i s).state k ep part iref := by
  have harmed : armedOf i s k = (watchOf i s k).slot.arm (s.timebase.tick s.control.mode) k s.measure.currentFloor
      { episode := ep.index, reference := ep.reference, iref := iref, part := part } := by rw [armedOf, harming]; rfl
  have hposted : ∀ r ∈ (armedOf i s k).records, posted s (finalWork i s).state r = true := fun r hr =>
    posted_watch i s k r ((lanedWork_watchRecords i s k).2 r hr)
  have hslot := finalWork_watch i s k
  have hsuperseded : (watchOf i s k).slot.armed = true →
      posted s (finalWork i s).state ((watchOf i s k).slot.endedRecord (finalWork i s).state k .superseded
        (watchOf i s k).slot.cycles (watchOf i s k).slot.lastRms) = true := by
    intro hold
    refine hposted _ ?_
    rw [harmed, ← watchRecord_eq i, Watch.arm, if_pos hold]
    split <;> exact List.mem_cons_self ..
  unfold State.armsIn
  dsimp only
  refine ⟨fun hold hcycle => ?_, fun hold hcycle hhold hlimit => ?_, fun hbelow => ?_, fun habove => ?_⟩
  · rw [(watchOf_goes_on hcount hruns hold).1 hcycle] at hsuperseded
    exact hsuperseded hold
  · have hcounted := count_eq (getLane s.watches k)
      (getPhase (finalWork i s).state.measure.figures.rmsI (getLane s.watches k).reference)
    have hkept := (watchOf_goes_on hcount hruns hold).2 hcycle (by rw [Watch.counted, hcounted]; exact hhold)
      (by rw [Watch.counted, hcounted]; exact hlimit)
    rw [hkept, Watch.counted, hcounted] at hsuperseded
    exact hsuperseded hold
  · rw [Watch.arm, if_pos hbelow] at harmed
    refine ⟨by rw [hslot, harmed], ?_⟩
    have hended := hposted _ (by rw [harmed]; exact List.mem_append_right _ (List.mem_singleton.2 rfl))
    rw [watchRecord, formRecord_eq i] at hended
    exact hended
  · rw [Watch.arm, if_neg (Nat.not_lt.2 habove)] at harmed
    rw [hslot, harmed]
    rfl

end

end Sys2Proof.Machine
end

section
/-! ### The END of an application and the firing of a trigger (R48 to R57, R61 to R64) -/

namespace Sys2Proof.Machine

/-! #### The END (R62) -/

/-- What an END hands on before the lane goes on: its record, and after the last application the watch to arm. -/
def endedOut (e : SampleEnv) (ep : Episode) (l : Lane) (last : Bool) : LaneOut :=
  { lane := { l with stage := none }
    records := [Machine.endRecord e false ep l]
    happened := [.applicationEnd]
    lastEnd := last
    arming := if last then
        ep.watch.map fun part => { episode := ep.index, reference := ep.reference, iref := l.iref, part := part }
      else none }

section
variable {e : SampleEnv} {ep : Episode} {l : Lane}

theorem endApplication_repeats (h : ep.repeatCount = 0 ∨ l.application < ep.repeatCount) : endApplication e ep l =
    (endedOut e ep l false).andThen fun l =>
      if ep.repeatGap = 0 then
        { lane := { l with state := .waiting, evaluationMark := false, evaluated := false } }
      else { lane := { l with state := .gap, advance := 0 } } := by
  unfold endApplication
  dsimp only
  rw [if_pos h]
  rfl

theorem endApplication_last (h : ¬(ep.repeatCount = 0 ∨ l.application < ep.repeatCount)) : endApplication e ep l =
    (endedOut e ep l true).andThen (actOnNextSlot e.toLaneEnv) := by
  unfold endApplication
  dsimp only
  rw [if_neg h]
  rfl

theorem endApplication_record : Machine.endRecord e false ep l ∈ (endApplication e ep l).records ∧
    .applicationEnd ∈ (endApplication e ep l).happened := by
  by_cases h : ep.repeatCount = 0 ∨ l.application < ep.repeatCount
  · rw [endApplication_repeats h]
    exact ⟨List.mem_cons_self .., List.mem_cons_self ..⟩
  · rw [endApplication_last h]
    exact ⟨List.mem_cons_self .., List.mem_cons_self ..⟩

/-- The last END of an episode is that of the application its repeat count names (R62). -/
theorem endApplication_lastEnd : (endApplication e ep l).lastEnd = true ↔
    1 ≤ ep.repeatCount ∧ ep.repeatCount ≤ l.application := by
  by_cases h : ep.repeatCount = 0 ∨ l.application < ep.repeatCount
  · rw [endApplication_repeats h]
    simp only [LaneOut.andThen, endedOut]
    split <;> simp <;> omega
  · rw [endApplication_last h]
    simp only [LaneOut.andThen, endedOut, actOnNextSlot_lastEnd]
    simp
    omega

theorem endApplication_arming (h : ¬(ep.repeatCount = 0 ∨ l.application < ep.repeatCount)) :
    (endApplication e ep l).arming =
      ep.watch.map fun part => { episode := ep.index, reference := ep.reference, iref := l.iref, part := part } := by
  rw [endApplication_last h]
  simp only [LaneOut.andThen, endedOut, (nextSlot_state _ _).2.2]
  rfl

end

section
variable {i : SampleInputs} {s : State} {k : LaneId} {ep : Episode} {l : Lane} (hcount : 1 ≤ s.measure.tripCount)
  (hruns : s.laneRuns i k = true)
include hcount hruns

/-- An END that the sample event delivers leads on as R48 and R62 to R64 say. -/
theorem Delivers.endsIn (h : Delivers i s k (endApplication (envOf i s k) ep l))
    (harms : (getLane (outsOf i s) k).arming = (endApplication (envOf i s k) ep l).arming) (hcurrent : l.current = some ep)
    (hstop : l.pendingStop = false) (hnext : l.next = (getLane s.lanes k).next) :
    s.endsIn (finalWork i s).state k ep l.application l.iref := by
  refine ⟨fun hrepeats => ?_, fun hone hlast => ?_⟩
  · rw [endApplication_repeats hrepeats] at h harms
    obtain ⟨n, hlane⟩ := h.lane
    simp only [hlane]
    refine ⟨?_, ?_, fun hgap => ?_, fun hgap => ?_, fun hidle => ?_⟩
    · simp only [LaneOut.andThen, endedOut]
      split <;> exact hcurrent
    · simp only [LaneOut.andThen, endedOut]
      split <;> rfl
    · simp only [LaneOut.andThen, endedOut, if_pos hgap]
      exact ⟨rfl, rfl⟩
    · simp only [LaneOut.andThen, endedOut, if_neg (Nat.ne_of_gt hgap)]
      exact ⟨rfl, rfl⟩
    · rw [finalWork_watch_unarmed]
      · exact watchOf_idle hcount hruns hidle
      · rw [harms]
        simp only [LaneOut.andThen, endedOut]
        split <;> rfl
  · have hends : ¬(ep.repeatCount = 0 ∨ l.application < ep.repeatCount) := by omega
    rw [endApplication_arming hends] at harms
    refine ⟨fun part hpart => outsOf_armsIn hcount hruns (by rw [harms, hpart]; rfl), ?_⟩
    obtain ⟨-, -, -, hbefore, -, -⟩ := runs_eq i s k hcount hruns
    rw [endApplication_last hends] at h
    exact h.second.actsOnNextIn (envOf_engine_of_runs hcount hruns) hstop hbefore hnext

end

/-! #### The trigger sample (R55, R56, R61) -/

section
variable {i : SampleInputs} {s : State} {k : LaneId} {ep : Episode}

theorem irefAt_eq : irefAt (envOf i s k) ep (getLane s.lanes k).evaluating = s.irefDue (finalWork i s).state k ep := by
  unfold irefAt State.irefDue
  rw [envOf_figures]
  rfl

/-- The EPISODE_START that the lane posts is the one its state before and the delivered figures give (R49, R55, R56). -/
theorem startRecord_mem : s.startRecord (finalWork i s).state k ep ∈
    (startedOut (envOf i s k) ep (getLane s.lanes k).evaluating).records := by
  have hstart : (tabPhase fun x => BitVec.ofInt 16 (getPhase (startValues ep s.composer.lastComposed) x)) =
      tabPhase fun x => if getPhase ep.mask x then BitVec.ofInt 16 (getPhase s.composer.lastComposed x) else 0 := by
    congr 1
    funext x
    rw [startValues, getPhase_tabPhase]
    split <;> rfl
  refine List.mem_cons.2 (.inl ?_)
  rw [irefAt_eq, envOf_lastComposed, hstart, envOf_record]
  rfl

theorem marker_mem {tag : Half} (hkind : ep.kind = .mark tag) :
    (finalWork i s).state.record (some k) (BitVec.ofNat 16 ep.index) (.marker tag) ∈
      (startedOut (envOf i s k) ep (getLane s.lanes k).evaluating).records := by
  refine List.mem_cons.2 (.inr ?_)
  rw [hkind, ← envOf_record]
  exact List.mem_singleton.2 rfl

/-- An ACTIVE lane governs the phases of its mask, where its kind claims on them (R72, R73). -/
theorem governs_of_claims {k : LaneId} {x : Phase} {t : State} (hclaims : t.composer.claims = claimsOf t.lanes)
    (hstate : (getLane t.lanes k).state = .active) (hcurrent : (getLane t.lanes k).current = some ep)
    (hmask : getPhase ep.mask x = true) (hkind : ep.kind.claimsPhases = true) : t.composer.claims.governs x k = true := by
  obtain ⟨hlevel, hshape, hflicker, hjump, -⟩ := claimsOf_sets t.lanes x k
  have hset : ∀ aspect : Kind → Bool, aspect ep.kind = true → (getLane t.lanes k).claims x aspect = true :=
    fun aspect haspect => (claims_iff _ _ _).2 ⟨hstate, ep, hcurrent, hmask, haspect⟩
  rw [hclaims, Claims.governs, hlevel, hshape, hflicker, hjump]
  cases h : ep.kind with
  | level target => simp [hset Kind.claimsLevel (by rw [h]; rfl)]
  | openCircuit => simp [hset Kind.claimsLevel (by rw [h]; rfl)]
  | shape j => simp [hset Kind.claimsShape (by rw [h]; rfl)]
  | flicker d r n => simp [hset Kind.claimsFlicker (by rw [h]; rfl)]
  | jump u o => simp [hset Kind.claimsJump (by rw [h]; rfl)]
  | freq | dwell | mark => rw [h] at hkind; cases hkind

variable (hcount : 1 ≤ s.measure.tripCount) (hruns : s.laneRuns i k = true)
  (hcurrent : (getLane s.lanes k).current = some ep)
  (hout : getLane (outsOf i s) k = fire (envOf i s k) ep (getLane s.lanes k).evaluating)
include hcount hruns hcurrent hout

/-- A lane that the sample event fires fires as R49, R55 to R57 and R61 say. -/
theorem outsOf_firesIn : s.firesIn (finalWork i s).state k ep := by
  have h := delivers_of_outsOf hout
  obtain ⟨-, -, -, hstop, -⟩ := runs_eq i s k hcount hruns
  by_cases hduration : 0 < ep.duration
  · rw [fire_of_stage (stageAt_of_lt hduration)] at h
    obtain ⟨n, hlane⟩ := h.lane
    rw [inStage_kept] at hlane
    have hstate : (getLane (finalWork i s).state.lanes k).state = .active := by rw [hlane]; rfl
    have hep : (getLane (finalWork i s).state.lanes k).current = some ep := by rw [hlane]; exact hcurrent
    refine ⟨h.records _ startRecord_mem, fun tag hkind => h.records _ (marker_mem hkind), h.marker,
      fun hzero => absurd hzero (Nat.ne_of_gt hduration), fun _ => ?_⟩
    refine ⟨hstate, hep, ?_, ?_, ?_, ?_, ?_, ?_, fun x => ?_, fun x hmask hkind =>
      governs_of_claims (finalWork_claimsOf i s) hstate hep hmask hkind⟩
    · rw [hlane]; rfl
    · rw [hlane]; rfl
    · rw [hlane]; rfl
    · rw [hlane]; exact irefAt_eq
    · rw [hlane]; rfl
    · rw [hlane]; rfl
    · rw [hlane]
      simp only [Lane.addClips, begunAt, Lane.begun, startValues, getPhase_tabPhase, envOf_lastComposed]
  · have hend := fire_of_end (e := envOf i s k) (l := (getLane s.lanes k).evaluating) (stageAt_of_le (Nat.not_lt.1 hduration))
    rw [hend] at h
    have hended := h.second
    obtain ⟨n, hlane⟩ := hended.lane
    obtain ⟨hspan, hstretched⟩ := openFigures_eq i s k ep
    have hrecord := hended.records _ endApplication_record.1
    rw [Machine.endRecord] at hrecord
    rw [hspan, hstretched, envOf_record] at hrecord
    refine ⟨h.first_records _ startRecord_mem, fun tag hkind => h.first_records _ (marker_mem hkind), fun hmark =>
      h.marker ?_, fun _ => ⟨?_, hrecord, ?_⟩, fun hpositive => absurd hpositive hduration⟩
    · simp only [LaneOut.andThen, startedOut, hmark, Bool.true_or]
    · rw [hlane]
      exact endApplication_not_active _ _ _
    · have harms : (getLane (outsOf i s) k).arming =
          (endApplication (envOf i s k) ep (begunAt (envOf i s k) ep (getLane s.lanes k).evaluating)).arming := by
        rw [hout, hend]
        exact Option.or_none
      have hends := hended.endsIn hcount hruns harms hcurrent hstop rfl
      rw [← irefAt_eq]
      exact hends

end

end Sys2Proof.Machine
end

section
/-! ### Triggers, ENDs and gaps at a sample event -/

namespace Sys2Proof.Machine

/-! #### The trigger of a WAITING lane (R50 to R54) -/

section
variable {i : SampleInputs} {s : State} {k : LaneId} {ep : Episode}

/-- The figures of the angle that a sample event leaves are those the lanes read (R52). -/
theorem finalWork_angles : (finalWork i s).state.timebase.previous = (s.timebase.tick s.control.mode).previous ∧
    (finalWork i s).state.timebase.theta = (s.timebase.tick s.control.mode).theta ∧
    (finalWork i s).state.timebase.offsets = (s.timebase.tick s.control.mode).offsets := by
  rw [finalWork_timebase]
  split <;> exact ⟨rfl, rfl, rfl⟩

theorem extMet_iff (code : Nat) (previous : Option Bool) (level : Bool) : extMet code previous level = true ↔
    code = 0 ∧ previous = some false ∧ level = true ∨ code = 1 ∧ previous = some true ∧ level = false ∨
      code = 2 ∧ level = true ∨ code = 3 ∧ level = false := by
  unfold extMet
  split <;> simp_all

theorem arcContains_iff (g a0 a1 : Word) :
    arcContains g a0 a1 = true ↔ 1 ≤ (g - a0).toNat ∧ (g - a0).toNat ≤ (a1 - a0).toNat := by
  simp [arcContains]

variable (hcount : 1 ≤ s.measure.tripCount) (hruns : s.laneRuns i k = true)
  (hstate : (getLane s.lanes k).state = .waiting) (hcurrent : (getLane s.lanes k).current = some ep)
  (htrigger : ∀ j, ep.trigger ≠ .cascade j) (hrunning : s.openedState = .running)
include hcount hruns hstate hcurrent htrigger hrunning

theorem outsOf_met (hmet : triggerMet (envOf i s k) ep = true) :
    getLane (outsOf i s) k = fire (envOf i s k) ep (getLane s.lanes k).evaluating := by
  have hfirst : firstOut i s k = fire (envOf i s k) ep (getLane s.lanes k).evaluating := by
    rw [firstOut_waiting hcount hruns hstate hcurrent,
      waitingWork_met ((envOf_engine_of_runs hcount hruns).trans hrunning) htrigger hmet]
  rw [outsOf_quiet (by rw [hfirst]; exact fire_listening _ _ _), hfirst]

theorem outsOf_unmet (hmet : triggerMet (envOf i s k) ep = false) :
    getLane (outsOf i s) k =
      { lane := { (getLane s.lanes k).evaluating with
          evaluated := (getLane s.lanes k).evaluated || ep.trigger.evaluatedAt s.cycleStartDue } } := by
  have hfirst := firstOut_waiting hcount hruns hstate hcurrent
  rw [waitingWork_unmet ((envOf_engine_of_runs hcount hruns).trans hrunning) htrigger hmet, envOf_cycleStart] at hfirst
  rw [outsOf_quiet (by rw [hfirst]), hfirst]

end

theorem evaluatedAt_iff (trigger : Trigger) (cycleStart : Bool) :
    trigger.evaluatedAt cycleStart = true ↔ ((∃ n, trigger = .current n) → cycleStart = true) := by
  cases trigger <;> simp [Trigger.evaluatedAt]

/-- A lane of the sample event that waits with its evaluation mark set. -/
theorem waits_of_lane {i : SampleInputs} {s : State} {k : LaneId} {ep : Episode} {evaluated : Bool}
    (hstate : (getLane s.lanes k).state = .waiting) (hcurrent : (getLane s.lanes k).current = some ep)
    (hlane : (getLane (outsOf i s) k).lane = { (getLane s.lanes k).evaluating with evaluated := evaluated }) :
    (getLane (finalWork i s).state.lanes k).state = .waiting ∧
      (getLane (finalWork i s).state.lanes k).current = some ep ∧
      (getLane (finalWork i s).state.lanes k).application = (getLane s.lanes k).application ∧
      (getLane (finalWork i s).state.lanes k).evaluationMark = true ∧
      (getLane (finalWork i s).state.lanes k).late = (getLane s.lanes k).late ∧
      (getLane (finalWork i s).state.lanes k).evaluated = evaluated := by
  obtain ⟨n, hfinal⟩ := finalWork_lane' i s k
  rw [hfinal, hlane]
  exact ⟨hstate, hcurrent, rfl, rfl, rfl, rfl⟩

/-- A lane WAITING on its own CASCADE makes no END at the sample event. -/
theorem firstOut_lastEnd_of_cascade {i : SampleInputs} {s : State} {j k : LaneId} {ep : Episode}
    (hcount : 1 ≤ s.measure.tripCount) (hruns : s.laneRuns i j = true) (hstate : (getLane s.lanes j).state = .waiting)
    (hcurrent : (getLane s.lanes j).current = some ep) (htrigger : ep.trigger = .cascade k) :
    (firstOut i s j).lastEnd = false := by
  by_cases hrunning : s.openedState = .running
  · rw [firstOut_listens hcount hruns hstate hcurrent htrigger hrunning]
  · rw [firstOut_waiting hcount hruns hstate hcurrent,
      waitingWork_outside (by rw [envOf_engine_of_runs hcount hruns]; exact hrunning)]

/-- Settles O40: outside RUNNING and while its condition is not met the lane waits, and where it is met the lane fires. -/
theorem triggersFireInRunning : Obligations.TriggersFireInRunning := by
  unfold Obligations.TriggersFireInRunning
  intro k i s ep hquiet hcount hruns hstate hcurrent hself
  have hrst := (runs_eq i s k hcount hruns).1
  refine ⟨_, event_eq i s hrst hquiet, ?_⟩
  intro a0 a1 met
  have hwaits : ∀ evaluated, (getLane (outsOf i s) k).lane = { (getLane s.lanes k).evaluating with evaluated := evaluated } →
      _ := fun evaluated => waits_of_lane (evaluated := evaluated) hstate hcurrent
  have houtside : s.openedState ≠ .running →
      (getLane (outsOf i s) k).lane = { (getLane s.lanes k).evaluating with evaluated := (getLane s.lanes k).evaluated } :=
    fun h => by rw [outsOf_outside hcount hruns hstate hcurrent h]; rfl
  by_cases hcascade : ∃ j, ep.trigger = .cascade j
  · obtain ⟨j, htrigger⟩ := hcascade
    obtain rfl := hself j htrigger
    have hnever : ¬ met := by
      simp only [met, htrigger]
      exact id
    refine ⟨fun _ => ?_, fun _ hmet => absurd hmet hnever⟩
    have hend := firstOut_lastEnd_of_cascade hcount hruns hstate hcurrent htrigger
    obtain ⟨hs, hc, happlication, hmark, hlate, hevaluated⟩ := hwaits _
      (outsOf_cascade_waits hcount hruns hstate hcurrent htrigger hend (.inr rfl))
    refine ⟨hs, hc, happlication, hmark, hlate, ?_⟩
    rw [hevaluated, htrigger]
    simp
  · have htrigger : ∀ j, ep.trigger ≠ .cascade j := fun j h => hcascade ⟨j, h⟩
    have hmet : met ↔ triggerMet (envOf i s k) ep = true := by
      obtain ⟨hprevious, htheta, hoffsets⟩ := finalWork_angles (i := i) (s := s)
      unfold triggerMet
      cases hkind : ep.trigger with
      | immediate => simp [met, hkind]
      | cycle => simp [met, hkind]
      | cascade j => exact absurd hkind (htrigger j)
      | angle u =>
        simp only [met, hkind, a0, a1, hprevious, htheta, hoffsets, arcContains_iff, envOf_timebase]
        rfl
      | ext code => simp only [met, hkind, extMet_iff, envOf_previousTrig, envOf_trig]
      | current n => simp only [met, hkind, envOf_cycleStart, envOf_figures, Bool.and_eq_true, decide_eq_true_eq]
    refine ⟨fun hnot => ?_, fun hrunning h => outsOf_firesIn hcount hruns hcurrent
      (outsOf_met hcount hruns hstate hcurrent htrigger hrunning (hmet.1 h))⟩
    by_cases hrunning : s.openedState = .running
    · have hunmet : triggerMet (envOf i s k) ep = false :=
        Bool.eq_false_iff.2 fun h => hnot.elim (fun hother => hother hrunning) (fun hno => hno (hmet.2 h))
      obtain ⟨hs, hc, happlication, hmark, hlate, hevaluated⟩ := hwaits _ (congrArg LaneOut.lane
        (outsOf_unmet hcount hruns hstate hcurrent htrigger hrunning hunmet))
      refine ⟨hs, hc, happlication, hmark, hlate, ?_⟩
      rw [hevaluated, Bool.or_eq_true, evaluatedAt_iff]
      simp [hrunning]
    · obtain ⟨hs, hc, happlication, hmark, hlate, hevaluated⟩ := hwaits _ (houtside hrunning)
      refine ⟨hs, hc, happlication, hmark, hlate, ?_⟩
      rw [hevaluated]
      simp [hrunning]

/-! #### The END of an application that others hear (R54, R62) -/

theorem fired_of_listening (l : Lane) (j : LaneId) (e : SampleEnv) (ep : Episode) :
    ({ lane := l, listening := some j } : LaneOut).fired e ep = fire e ep l := by
  have hlistening := fire_listening e ep l
  unfold LaneOut.fired LaneOut.andThen
  cases h : fire e ep l with
  | mk lane records plan marker arming lastEnd discards listening happened =>
    rw [h] at hlistening
    simp_all

/-- A firing of duration 0 makes a last END where the repeat count is the number of its application (R57, R62). -/
theorem fire_lastEnd {e : SampleEnv} {ep : Episode} {l : Lane} (hduration : ep.duration = 0)
    (hlast : ep.repeatCount = l.application + 1) : (fire e ep l).lastEnd = true := by
  rw [fire_of_end (stageAt_of_le (Nat.le_of_eq hduration))]
  simp only [LaneOut.andThen, Bool.or_eq_true]
  refine .inr (endApplication_lastEnd.2 ?_)
  show 1 ≤ ep.repeatCount ∧ ep.repeatCount ≤ l.application + 1
  omega

section
variable {i : SampleInputs} {s : State} {k : LaneId} {ep : Episode} (hcount : 1 ≤ s.measure.tripCount)
  (hruns : s.laneRuns i k = true) (hstate : (getLane s.lanes k).state = .active)
  (hcurrent : (getLane s.lanes k).current = some ep)
include hcount hruns hstate hcurrent

theorem firstOut_ends (hend : ep.duration ≤ s.advanceDue k) :
    firstOut i s k = endApplication (envOf i s k) ep ((takenLane i s k).advanced s.incrementDue) := by
  rw [firstOut_active hcount hruns hstate hcurrent, activeWork_of_end, envOf_advance]
  rw [envOf_advance, advanced_eq]
  exact stageAt_of_le hend

/-- At the END of its last application the lanes WAITING on a CASCADE of the lane fire, and no others (R54). -/
theorem outsOf_cascade (hend : ep.duration ≤ s.advanceDue k) {j : LaneId} {ep' : Episode}
    (hruns' : s.laneRuns i j = true) (hstate' : (getLane s.lanes j).state = .waiting)
    (hcurrent' : (getLane s.lanes j).current = some ep') (htrigger : ep'.trigger = .cascade k) :
    (s.openedState = .running → 1 ≤ ep.repeatCount → ep.repeatCount ≤ (getLane s.lanes k).application →
      getLane (outsOf i s) j = fire (envOf i s j) ep' (getLane s.lanes j).evaluating ∧
      (ep'.duration = 0 → ep'.repeatCount = (getLane s.lanes j).application + 1 →
        ∀ j' ep'', s.laneRuns i j' = true → (getLane s.lanes j').state = .waiting →
          (getLane s.lanes j').current = some ep'' → ep''.trigger = .cascade j →
          getLane (outsOf i s) j' = fire (envOf i s j') ep'' (getLane s.lanes j').evaluating)) ∧
    (s.openedState ≠ .running ∨ ep.repeatCount = 0 ∨ (getLane s.lanes k).application < ep.repeatCount →
      (getLane (finalWork i s).state.lanes j).state = .waiting ∧
        (getLane (finalWork i s).state.lanes j).application = (getLane s.lanes j).application) := by
  have hfirst := firstOut_ends hcount hruns hstate hcurrent hend
  have happlication : ((takenLane i s k).advanced s.incrementDue).application = (getLane s.lanes k).application := by
    rw [takenLane_eq]; rfl
  have hlast : (firstOut i s k).lastEnd = true ↔
      1 ≤ ep.repeatCount ∧ ep.repeatCount ≤ (getLane s.lanes k).application := by
    rw [hfirst, endApplication_lastEnd, happlication]
  refine ⟨fun hrunning hone hreached => ?_, fun hnot => ?_⟩
  · have hlistens := firstOut_listens hcount hruns' hstate' hcurrent' htrigger hrunning
    refine ⟨?_, fun hduration hlast' j' ep'' hruns'' hstate'' hcurrent'' htrigger' => ?_⟩
    · rw [outsOf_heard (by rw [hlistens]) (by rw [hlistens]; exact hcurrent') (hlast.2 ⟨hone, hreached⟩), hlistens,
        fired_of_listening]
    · have hlistens' := firstOut_listens hcount hruns'' hstate'' hcurrent'' htrigger' hrunning
      rw [outsOf_heard_later (by rw [hlistens']) (by rw [hlistens']; exact hcurrent'') (by rw [hlistens])
        (by rw [hlistens]; exact hcurrent') (hlast.2 ⟨hone, hreached⟩) (by rw [hlistens])
        (by rw [hlistens, fired_of_listening]; exact fire_lastEnd hduration hlast'), hlistens', fired_of_listening]
  · refine finalWork_lane_of (k := j) (P := fun l => l.state = .waiting ∧ l.application = (getLane s.lanes j).application)
      fun n => ?_
    by_cases hrunning : s.openedState = .running
    · have hrepeats := hnot.resolve_left (fun h => h hrunning)
      have hnone : (firstOut i s k).lastEnd = false := by
        rw [← Bool.not_eq_true, hlast]
        omega
      rw [outsOf_cascade_waits hcount hruns' hstate' hcurrent' htrigger hnone
        (.inl (by rw [hfirst]; exact end_listening _ _ _))]
      exact ⟨hstate', rfl⟩
    · rw [outsOf_outside hcount hruns' hstate' hcurrent' hrunning]
      exact ⟨hstate', rfl⟩

end

theorem gapWork_of_le {e : SampleEnv} {ep : Episode} {l : Lane} (h : ep.repeatGap ≤ (l.advanced e.advance).phaseAdvance) :
    gapWork e ep l =
      { lane := { l.advanced e.advance with state := .waiting, evaluationMark := false, evaluated := false },
        happened := [.gapEnd] } := if_pos h

theorem gapWork_of_lt {e : SampleEnv} {ep : Episode} {l : Lane} (h : (l.advanced e.advance).phaseAdvance < ep.repeatGap) :
    gapWork e ep l = { lane := l.advanced e.advance } := if_neg (Nat.not_le.2 h)

/-- The advance of a gap at the sample event (R63). -/
theorem advanced_of_gap {i : SampleInputs} {s : State} {k : LaneId} (hstate : (getLane s.lanes k).state = .gap) :
    ((getLane s.lanes k).advanced (envOf i s k).advance).phaseAdvance = s.advanceDue k := by
  rw [envOf_advance, ← advanced_eq i s k, takenLane_of_not_active (by rw [hstate]; nofun)]

/-- Settles O41: the END by its delivery and by what the listeners hear, the application that goes on by its stage, and
the gap by its own advance. -/
theorem applicationsAndGapsEnd : Obligations.ApplicationsAndGapsEnd := by
  unfold Obligations.ApplicationsAndGapsEnd
  intro k i s ep hquiet hcount hruns hcurrent
  obtain ⟨hrst, -, -, hstop, -, -⟩ := runs_eq i s k hcount hruns
  refine ⟨fun hstate => ⟨fun hend => ?_, fun hlt => ?_⟩, fun hstate => ⟨fun hdone => ?_, fun hlt => ?_⟩⟩
  · have hfirst := firstOut_ends hcount hruns hstate hcurrent hend
    have hout : getLane (outsOf i s) k = _ := (outsOf_quiet (by rw [hfirst]; exact end_listening _ _ _)).trans hfirst
    have h := delivers_of_outsOf hout
    obtain ⟨hrecord, hhappened⟩ := endApplication_record (e := envOf i s k) (ep := ep)
      (l := (takenLane i s k).advanced s.incrementDue)
    refine ⟨_, row_eq i s _ hrst hquiet (lanedWork_happened i s k .applicationEnd (by rw [hout]; exact hhappened)),
      event_eq i s hrst hquiet, fun x => ?_, ?_, fun j ep' hruns' hstate' hcurrent' htrigger => ?_, ?_⟩
    · rw [finalWork_claimsOf]
      refine governs_none _ k (finalWork_lane_of (k := k) (P := fun l => l.state ≠ .active) fun n => ?_) x
      rw [hout]
      exact endApplication_not_active _ _ _
    · have hposted := h.records _ hrecord
      rw [endRecord_eq hstate hcurrent false ((takenLane i s k).advanced s.incrementDue) rfl rfl
        (takenLane_kept i s k).2.2.1 (takenLane_kept i s k).2.2.2.1] at hposted
      exact hposted
    · obtain ⟨hfire, hwait⟩ := outsOf_cascade hcount hruns hstate hcurrent hend hruns' hstate' hcurrent' htrigger
      refine ⟨fun hrunning hone hreached => ?_, hwait⟩
      obtain ⟨hfires, hlater⟩ := hfire hrunning hone hreached
      exact ⟨outsOf_firesIn hcount hruns' hcurrent' hfires, fun hduration hlast j' ep'' hruns'' hstate'' hcurrent'' htrigger' =>
        outsOf_firesIn hcount hruns'' hcurrent'' (hlater hduration hlast j' ep'' hruns'' hstate'' hcurrent'' htrigger')⟩
    · have hends := h.endsIn hcount hruns (by rw [hout]) (by rw [takenLane_eq]; exact hcurrent)
        (by rw [takenLane_eq]; exact hstop) (by rw [takenLane_eq]; rfl)
      rw [takenLane_eq] at hends
      exact hends
  · have hkept := activeWork_kept (l := takenLane i s k) (e := envOf i s k) (active_stage (i := i) hlt)
    have hrms := takenLane_rms (i := i) hstate hcurrent
    rw [takenLane_eq] at hkept
    obtain ⟨n, hfinal⟩ := finalWork_lane' i s k
    refine ⟨_, event_eq i s hrst hquiet, ?_⟩
    dsimp only
    rw [← hrms, hfinal, outsOf_active hcount hruns hstate hcurrent, takenLane_eq, hkept]
    exact ⟨hstate, hcurrent, rfl, rfl, rfl, by rw [envOf_advance]; rfl, rfl, rfl⟩
  · have hout := outsOf_gap (i := i) hcount hruns hstate hcurrent
    rw [gapWork_of_le (by rw [advanced_of_gap hstate]; exact hdone)] at hout
    obtain ⟨n, hfinal⟩ := finalWork_lane' i s k
    refine ⟨_, row_eq i s _ hrst hquiet (lanedWork_happened i s k .gapEnd (by rw [hout]; exact .head _)),
      event_eq i s hrst hquiet, ?_⟩
    rw [hfinal, hout]
    exact ⟨rfl, hcurrent, rfl, rfl⟩
  · have hout := outsOf_gap (i := i) hcount hruns hstate hcurrent
    rw [gapWork_of_lt (by rw [advanced_of_gap hstate]; exact hlt), envOf_advance] at hout
    obtain ⟨n, hfinal⟩ := finalWork_lane' i s k
    refine ⟨_, event_eq i s hrst hquiet, ?_⟩
    rw [hfinal, hout]
    exact ⟨hstate, hcurrent, rfl⟩

end Sys2Proof.Machine
end

section
/-! ### A transaction that reaches the wait limit (R15)

The expiry is taken after the wait timer or after the reports. What the stages between the two points keep is said once,
in `Work.Passes`, so that either order answers for the requester. -/

namespace Sys2Proof.Machine

/-! #### The port apart from its slot and its scan request -/

/-- The port with its slot and its scan request put aside. -/
def Port.counts (p : Port) : Port := { p with slot := none, scanRequest := false }

/-- What a failure leaves in the port for its requester (R15, the table of bus endings). -/
def Port.failedBy (p : Port) : BusKind → Port
  | .journalCount => { p with writtenOwed := true }
  | .writtenCount => { p with writtenOwed := true }
  | .scan => p.requestOwed
  | _ => p

theorem Port.counts_failedBy (p : Port) (kind : BusKind) : (p.failedBy kind).counts = p.counts.failedBy kind := by
  cases kind <;> rfl

/-- Ports that agree in their counts agree in what is owed and requested of them. -/
theorem requests_of_counts {p q : Port} (h : q.counts = p.counts) :
    q.writtenOwed = p.writtenOwed ∧ q.writtenRequest = p.writtenRequest ∧ q.takenOwed = p.takenOwed ∧
      q.takenRequest = p.takenRequest :=
  have hfield {α : Type} (field : Port → α) : field q.counts = field p.counts := congrArg field h
  ⟨hfield Port.writtenOwed, hfield Port.writtenRequest, hfield Port.takenOwed, hfield Port.takenRequest⟩

/-- An expiry leaves the copies, the counts and the base as they are, whoever its requester is (R15). -/
theorem failed_kept {p q : Port} {orphan : Bool} {kind : BusKind}
    (h : q.counts = (if orphan then p else p.failedBy kind).counts) :
    q.posted = p.posted ∧ q.taken = p.taken ∧ q.written = p.written ∧ q.readCount = p.readCount ∧
      q.planBase = p.planBase := by
  have hfailed : (if orphan then p else p.failedBy kind).posted = p.posted ∧
      (if orphan then p else p.failedBy kind).taken = p.taken ∧
      (if orphan then p else p.failedBy kind).written = p.written ∧
      (if orphan then p else p.failedBy kind).readCount = p.readCount ∧
      (if orphan then p else p.failedBy kind).planBase = p.planBase := by
    cases orphan with
    | true => exact ⟨rfl, rfl, rfl, rfl, rfl⟩
    | false => cases kind <;> exact ⟨rfl, rfl, rfl, rfl, rfl⟩
  obtain ⟨hposted, htaken, hwritten, hread, hbase⟩ := hfailed
  exact ⟨(congrArg Port.posted h).trans hposted, (congrArg Port.taken h).trans htaken,
    (congrArg Port.written h).trans hwritten, (congrArg Port.readCount h).trans hread,
    (congrArg Port.planBase h).trans hbase⟩

theorem counts_failed {p q : Port} (h : p.counts = q.counts) (orphan : Bool) (kind : BusKind) :
    (if orphan then p else p.failedBy kind).counts = (if orphan then q else q.failedBy kind).counts := by
  cases orphan with
  | true => exact h
  | false => exact (p.counts_failedBy kind).trans ((congrArg (Port.failedBy · kind) h).trans (q.counts_failedBy kind).symm)

theorem requestScan_counts (p : Port) : p.requestScan.counts = p.counts := by
  obtain h | ⟨h, -⟩ := Port.requestScan_spec p
  · rw [h]
    rfl
  · rw [h]

/-- A kind of the run-settings load (R4). -/
def BusKind.isLoad : BusKind → Bool
  | .loadHeader => true
  | .loadReadCount _ => true
  | .loadWriteCount _ _ => true
  | _ => false

theorem isLoad_of {kind : BusKind}
    (h : kind = .loadHeader ∨ (∃ header, kind = .loadReadCount header) ∨ ∃ header w, kind = .loadWriteCount header w) :
    kind.isLoad = true := by
  obtain rfl | ⟨header, rfl⟩ | ⟨header, w, rfl⟩ := h <;> rfl

/-- A kind of the journal's record write (R13). -/
def BusKind.isRecord : BusKind → Bool
  | .journalRecord _ => true
  | _ => false

theorem isRecord_of_load {kind : BusKind} (h : kind.isLoad = true) : kind.isRecord = false := by
  cases kind with
  | journalRecord => cases h
  | _ => rfl

/-- Lanes that stop wanting their fetch leave every other requester's transaction as it is (R17). -/
theorem unwanted_kept (ks : LaneId → Bool) (kind : BusKind) (p : Port) :
    p.failedBy (kind.unwanted ks) = p.failedBy kind ∧ (kind.unwanted ks).isLoad = kind.isLoad ∧
      (kind.unwanted ks).isRecord = kind.isRecord := by
  cases kind <;> exact ⟨rfl, rfl, rfl⟩

/-! #### A failure -/

section
variable {s : State} {tr : Transaction} (hslot : s.port.slot = some tr)
include hslot

theorem fail_of_orphan (horphan : tr.orphan = true) : s.fail = { state := s.freeSlot } :=
  ((State.fail_spec s).2 tr hslot).1 horphan

theorem fail_of_own (horphan : tr.orphan = false) : s.fail = (s.freeSlot.setFlag .bus).failed tr.kind :=
  ((State.fail_spec s).2 tr hslot).2 horphan

theorem fail_frees : s.fail.state.port.slot = none := by
  cases horphan : tr.orphan with
  | true => rw [fail_of_orphan hslot horphan]; rfl
  | false =>
    rw [fail_of_own hslot horphan]
    cases tr.kind with
    | laneFetch k f wanted => unfold State.failed State.fetchFailed; dsimp only; split <;> rfl
    | _ => rfl

theorem fail_counts : s.fail.state.port.counts = (if tr.orphan then s.port else s.port.failedBy tr.kind).counts := by
  cases horphan : tr.orphan with
  | true => rw [fail_of_orphan hslot horphan]; rfl
  | false =>
    rw [fail_of_own hslot horphan]
    cases tr.kind with
    | laneFetch k f wanted => unfold State.failed State.fetchFailed; dsimp only; split <;> rfl
    | _ => rfl

theorem fail_dropsHead : s.fail.dropsHead = (!tr.orphan && tr.kind.isRecord) := by
  cases horphan : tr.orphan with
  | true => rw [fail_of_orphan hslot horphan]; rfl
  | false =>
    rw [fail_of_own hslot horphan]
    cases tr.kind with
    | laneFetch k f wanted => unfold State.failed State.fetchFailed; dsimp only; split <;> rfl
    | _ => rfl

theorem fail_bus : s.fail.state.window.has .bus = (s.window.has .bus || !tr.orphan) := by
  cases horphan : tr.orphan with
  | true => rw [fail_of_orphan hslot horphan]; simp
  | false =>
    have hbus : (s.window.setFlag .bus).has .bus = true := by simp [setFlag_has]
    rw [fail_of_own hslot horphan, Bool.not_false, Bool.or_true]
    cases tr.kind with
    | laneFetch k f wanted =>
      cases wanted with
      | true => exact (setFlagIf_le _ _ _).2 _ hbus
      | false => exact hbus
    | loadHeader | loadReadCount | loadWriteCount => exact (setFlag_le _ _).2 _ hbus
    | _ => exact hbus

/-- The failed load: START is refused with cause BUS (R4, R151). -/
theorem fail_load (horphan : tr.orphan = false) (hload : tr.kind.isLoad = true) :
    s.fail.state.control = { s.control with engine := .standby } ∧ s.fail.state.window.has .run = true ∧
      s.fail.records = [engineRecord s.timebase .standby .startRefused .bus] := by
  have hrun : ∀ w : Window, (w.setFlag .run).has .run = true := fun w => by simp [setFlag_has]
  rw [fail_of_own hslot horphan]
  cases hkind : tr.kind with
  | loadHeader | loadReadCount | loadWriteCount => exact ⟨rfl, hrun _, rfl⟩
  | _ => rw [hkind] at hload; cases hload

/-- A wanted fetch for the current slot fails: its lane is HALTED (R9, R11). -/
theorem fail_fetch (horphan : tr.orphan = false) {k : LaneId} {f : Fetch} (hkind : tr.kind = .laneFetch k f true)
    (hfetching : (getLane s.lanes k).state = .fetching) :
    (getLane s.fail.state.lanes k).state = .halted ∧ s.fail.state.window.has .plan = true ∧
      s.fail.state.control = s.control := by
  rw [fail_of_own hslot horphan, hkind, State.failed, fetchFailed_wanted]
  refine ⟨?_, by simp [setFlag_has], rfl⟩
  rw [getLane_setLane_same]
  have hlane := ((refuse_spec ((s.freeSlot.setFlag .bus).laneEnv k) .bus
    (f.offending (getLane (s.freeSlot.setFlag .bus).port.taken k)) f.named
    (getLane (s.freeSlot.setFlag .bus).lanes k)).2.2.1 (.inr hfetching)).1
  rw [hlane]
  rfl

end

/-! #### The stages between the two points of an expiry -/

/-- The stages from the opening to the reports (R149). -/
def Work.carried (i : SampleInputs) (w : Work) : Work :=
  ((((((w.opening).sampleLines i).measure).cycleScan).protect i).perform i).report

/-- The window changed by setting flags other than BUS. -/
def Window.Raised (a b : Window) : Prop := a.le b ∧ b.has .bus = a.has .bus

theorem Window.Raised.refl (a : Window) : a.Raised a := ⟨Window.le_refl a, rfl⟩

theorem Window.Raised.trans {a b c : Window} (h : a.Raised b) (g : b.Raised c) : a.Raised c :=
  ⟨Window.le_trans h.1 g.1, g.2.trans h.2⟩

theorem Window.raised_setFlag (w : Window) {f : Flag} (hf : f ≠ .bus) : w.Raised (w.setFlag f) :=
  ⟨setFlag_le w f, by rw [setFlag_has, decide_eq_false hf, Bool.or_false]⟩

theorem Window.raised_setFlagIf (w : Window) (b : Bool) {f : Flag} (hf : f ≠ .bus) : w.Raised (w.setFlagIf b f) := by
  unfold Window.setFlagIf
  split
  · exact w.raised_setFlag hf
  · exact .refl w

theorem opening_raised (w : Work) : w.state.window.Raised w.opening.state.window := by
  have hopening : w.opening.state.window = w.enterProgress.state.window := actOnRelease_window _
  rw [hopening]
  unfold Work.enterProgress
  dsimp only
  split
  · exact .refl _
  · exact .refl _
  · exact Window.raised_setFlag _ nofun
  · exact Window.raised_setFlag _ nofun

theorem protect_raised (w : Work) (i : SampleInputs) : w.state.window.Raised (w.protect i).state.window := by
  unfold Work.protect
  dsimp only
  split
  · exact .refl _
  all_goals exact Window.raised_setFlag _ nofun

theorem carried_raised (w : Work) (i : SampleInputs) : w.state.window.Raised (w.carried i).state.window := by
  have hperform : ∀ v : Work, v.state.window.Raised (v.perform i).state.window := fun v => by
    rw [perform_composedWork]
    simp only [Work.output_window, composedWork, Work.commandRelays_window, Work.compose_window, Work.frequency_window]
    exact Window.raised_setFlagIf _ _ (f := .plan) nofun
  have hlines : w.opening.state.window.Raised (w.opening.sampleLines i).measure.state.window :=
    Window.raised_setFlagIf _ _ (f := .fault) nofun
  have hsettled := protect_raised (((w.opening).sampleLines i).measure).cycleScan i
  rw [Work.cycleScan_window] at hsettled
  exact (opening_raised w).trans ((hlines.trans hsettled).trans (hperform _))

/-- What the stages from the opening to the reports keep. -/
structure Work.Passes (w v : Work) : Prop where
  counts : v.state.port.counts = w.state.port.counts
  slot : ∃ ks, v.state.port.slot = w.state.port.slot.map fun t => { t with kind := t.kind.unwanted ks }
  journal : v.state.journal = w.state.journal
  window : w.state.window.Raised v.state.window
  cycle : v.state.timebase.cycle = w.state.timebase.cycle
  sample : v.state.timebase.sample = w.state.timebase.sample
  records : w.controlRecords ⊆ v.controlRecords
  happened : w.happened ⊆ v.happened
  dropsHead : v.dropsHead = w.dropsHead

theorem carried_port (w : Work) (i : SampleInputs) :
    (w.carried i).state.port.counts = w.state.port.counts ∧
      ∃ ks, (w.carried i).state.port.slot = w.state.port.slot.map fun t => { t with kind := t.kind.unwanted ks } := by
  have hport : (w.carried i).state.port =
      (lanedWork i ((((w.opening).sampleLines i).measure).cycleScan.protect i)).state.port := by
    rw [Work.carried, Work.report_port, perform_port, lanedWork]
  have hscan : ((((w.opening).sampleLines i).measure).cycleScan).state.port.counts = w.state.port.counts := by
    rw [cycleScan_port]
    split <;> simp only [requestScan_counts, Work.measure_port, Work.sampleLines_port, Work.opening_port]
  rw [hport]
  have hslot : ((((w.opening).sampleLines i).measure).cycleScan.protect i).state.port.slot = w.state.port.slot := by
    simp only [Work.protect_port, cycleScan_slot, Work.measure_port, Work.sampleLines_port, Work.opening_port]
  rw [← hslot]
  exact ⟨(congrArg Port.counts (Work.protect_port _ i)).trans hscan, _, rfl⟩

theorem carried_timebase (w : Work) (i : SampleInputs) :
    (w.carried i).state.timebase.cycle = w.state.timebase.cycle ∧
      (w.carried i).state.timebase.sample = w.state.timebase.sample := by
  have hfrequency : ∀ v : Work, v.frequency.state.timebase.cycle = v.state.timebase.cycle ∧
      v.frequency.state.timebase.sample = v.state.timebase.sample := fun v => by
    unfold Work.frequency
    dsimp only
    split <;> exact ⟨rfl, rfl⟩
  simp only [Work.carried, Work.report_timebase, perform_composedWork, Work.output_timebase, composedWork,
    Work.commandRelays_timebase, Work.compose_timebase, hfrequency]
  simp

theorem carried_records (w : Work) (i : SampleInputs) : w.controlRecords ⊆ (w.carried i).controlRecords := by
  have hentered : w.controlRecords ⊆ w.enterProgress.controlRecords := by
    unfold Work.enterProgress
    dsimp only
    split <;> simp
  have hopened : w.controlRecords ⊆ w.opening.controlRecords :=
    fun _ h => actOnRelease_records _ (hentered h)
  have hscan : (((w.opening).sampleLines i).measure).cycleScan.controlRecords = w.opening.controlRecords := by
    unfold Work.cycleScan
    split <;> rfl
  have hcarried : (w.carried i).controlRecords =
      ((((w.opening).sampleLines i).measure).cycleScan.protect i).controlRecords := perform_controlRecords i _
  rw [hcarried]
  exact fun _ h => protect_controlRecords i _ (by rw [hscan]; exact hopened h)

theorem perform_happened (w : Work) (i : SampleInputs) : w.happened ⊆ (w.perform i).happened := fun _ h =>
  output_happened _ _ (compose_happened _ (by
    rw [frequency_happened]
    exact lanes_happened _ _ (advanceRelays_happened _ (watches_happened _ _ h))))

theorem carried_happened (w : Work) (i : SampleInputs) : w.happened ⊆ (w.carried i).happened := fun _ h =>
  perform_happened _ i (protect_happened _ i (by
    rw [cycleScan_happened]
    exact measure_happened _ (opening_happened _ h)))

theorem carried_passes (w : Work) (i : SampleInputs) : w.Passes (w.carried i) where
  counts := (carried_port w i).1
  slot := (carried_port w i).2
  journal := by simp [Work.carried, Work.perform]
  window := carried_raised w i
  cycle := (carried_timebase w i).1
  sample := (carried_timebase w i).2
  records := carried_records w i
  happened := carried_happened w i
  dropsHead := by
    refine (perform_dropsHead _ i).trans ((protect_dropsHead _ i).trans ((cycleScan_dropsHead _).trans ?_))
    exact opening_dropsHead w

/-- Outside a live state no protection is present (R136, R141, R157). -/
theorem presents_of_not_live {w : Work} {i : SampleInputs} (h : w.opened.live = false) (x : Protection) :
    w.presents i x = false := by
  cases x <;> simp [Work.presents, Measure.tripReport, Measure.lost, h]

/-- With no progress due and the engine in a state outside a run, the stages leave the engine state (R149, R154, R158). -/
theorem carried_engine {w : Work} {i : SampleInputs} (hprogress : w.state.control.progress = .none)
    (hengine : w.state.control.engine = .standby ∨ w.state.control.engine = .loading) :
    (w.carried i).state.control.engine = w.state.control.engine := by
  have hopened : w.state.openedState = w.state.control.engine := by
    unfold State.openedState State.releaseDue State.enteredState
    rw [hprogress]
    obtain h | h := hengine <;> simp [h]
  have hlive : (((w.opening).sampleLines i).measure).cycleScan.opened.live = false := by
    rw [Work.cycleScan_out_opened]
    change w.opening.opened.live = false
    rw [opening_opened, hopened]
    obtain h | h := hengine <;> rw [h] <;> rfl
  have hnone : (((w.opening).sampleLines i).measure).cycleScan.protectionTaken i = none := by
    refine List.find?_eq_none.2 fun x _ => ?_
    rw [presents_of_not_live hlive]
    nofun
  have hcontrol : (w.carried i).state.control.engine = w.opening.state.control.engine := by
    rw [Work.carried, protect_none i _ hnone]
    simp only [Work.report, perform_composedWork, Work.output_control, composedWork_control, Work.cycleScan_control,
      Work.measure_control]
    rfl
  rw [hcontrol, opening_engine, hopened]

/-! #### A HALTED lane -/

/-- With no RELEASE acted on, a HALTED lane stays HALTED, its stop carried out where one is pending (R66, R69). -/
theorem laneWork_of_halted {e : SampleEnv} {l : Lane} (h : l.state = .halted) (hreleased : e.released = false) :
    (laneWork e l).lane.state = .halted ∧ (laneWork e l).listening = none := by
  have htaken : (if e.cycleStart && l.state == .active then l.takeRms e.figures else l) = l := by rw [h]; simp
  unfold laneWork
  rw [htaken, hreleased]
  dsimp only
  split
  · rw [protectWork, if_pos h]
    exact ⟨h, rfl⟩
  · rw [if_neg nofun]
    split
    · exact ⟨rfl, rfl⟩
    · rw [ownWork, h]
      exact ⟨h, rfl⟩

theorem perform_halted {w : Work} {i : SampleInputs} {k : LaneId} (hhalted : (getLane w.state.lanes k).state = .halted)
    (hreleased : w.released = false) : (getLane (w.perform i).state.lanes k).state = .halted := by
  have hwork := laneWork_of_halted (e := ((w.watches i).advanceRelays).sampleEnv i k) hhalted hreleased
  have hlane : (getLane (lanedWork i w).state.lanes k).state = .halted := by
    simp only [lanedWork, Work.lanes, getLane_tabLane]
    rw [lanesWork_none _ _ _ (by rw [getLane_tabLane]; exact hwork.2), getLane_tabLane]
    exact hwork.1
  rw [perform_lane]
  exact hlane

theorem carried_halted {w : Work} {i : SampleInputs} {k : LaneId} (hhalted : (getLane w.state.lanes k).state = .halted)
    (hreleased : w.released = false) (hrelease : w.state.releaseDue = false) :
    (getLane (w.carried i).state.lanes k).state = .halted := by
  have hopened : w.opening.released = false := by rw [opening_released w hreleased, hrelease]
  refine perform_halted (by simpa using hhalted) ?_
  simp only [Work.protect_out_released, Work.cycleScan_out_released]
  exact hopened

/-! #### The journal of a failed record write -/

/-- Posting leaves what waits in its place, and no drop is taken back (R165, R167). -/
theorem postAll_extends {j : Journal} (h : j.InOrder) (rs : List Record) :
    (∃ more, (j.postAll rs).queue = j.queue ++ more) ∧ j.drops ≤ (j.postAll rs).drops := by
  obtain ⟨hlength, hcount⟩ := h
  obtain ⟨hqueue, hdrops⟩ := postingKeepsTheEarliestEight j rs hlength hcount
  refine ⟨⟨rs.take (8 - j.queue.length), ?_⟩, ?_⟩
  · rw [hqueue, List.take_append, List.take_of_length_le hlength]
  · rw [hdrops]
    omega

theorem dropHead_drops (j : Journal) : j.dropHead.drops = min (j.drops + 1) 4294967295 := rfl

/-- The head record leaves the queue and is counted as a drop, whether it leaves before or after the sample event's
records join (R13, R167). -/
theorem dropHead_posted {j : Journal} {head : Record} {rest : List Record} (hqueue : j.queue = head :: rest)
    (hlength : rest.length ≤ 7) (hdrops : j.drops < 4294967295) (rs : List Record) :
    ((∃ more, (j.dropHead.postAll rs).queue = rest ++ more) ∧ j.drops < (j.dropHead.postAll rs).drops) ∧
      (∃ more, (j.postAll rs).dropHead.queue = rest ++ more) ∧ j.drops < (j.postAll rs).dropHead.drops := by
  have horder : j.InOrder := ⟨by rw [hqueue, List.length_cons]; omega, by omega⟩
  obtain ⟨⟨after, hafter⟩, hless⟩ := postAll_extends (Journal.inOrder_dropHead horder) rs
  obtain ⟨⟨before, hbefore⟩, hmore⟩ := postAll_extends horder rs
  have hdropped : j.drops < j.dropHead.drops := by
    rw [dropHead_drops]
    omega
  refine ⟨⟨⟨after, ?_⟩, by omega⟩, ⟨before, ?_⟩, ?_⟩
  · rw [hafter, Journal.dropHead, hqueue, List.tail_cons]
  · rw [Journal.dropHead, hbefore, hqueue, List.cons_append, List.tail_cons]
  · rw [dropHead_drops]
    omega

/-! #### The expiry in its two orders -/

/-- What the expiry of a transaction leaves of a state (R15, R19). -/
structure State.ExpiryOutcome (s : State) (tr : Transaction) (t : State) : Prop where
  slot : t.port.slot = none
  counts : t.port.counts = (if tr.orphan then s.port else s.port.failedBy tr.kind).counts
  bus : t.window.has .bus = (s.window.has .bus || !tr.orphan)
  load : tr.orphan = false → tr.kind.isLoad = true → s.control.engine = .loading → s.control.progress = .none →
    t.control.engine = .standby ∧ t.window.has .run = true ∧
      posted s t (t.record none 0xFFFF (.engine .startRefused .standby .bus none 0)) = true
  head : tr.orphan = false → tr.kind.isRecord = true → ∀ head rest, s.journal.queue = head :: rest → rest.length ≤ 7 →
    s.journal.drops < 4294967295 → (∃ more, t.journal.queue = rest ++ more) ∧ s.journal.drops < t.journal.drops

theorem expire_false (w : Work) : w.expire false = w := rfl

theorem expire_spec {w : Work} (h : w.expired = true) :
    (w.expire true).state = w.state.fail.state ∧
      (w.expire true).controlRecords = w.controlRecords ++ w.state.fail.records.filter (fun r => r.lane == none) ∧
      (w.expire true).dropsHead = (w.dropsHead || w.state.fail.dropsHead) ∧
      Happening.busWaitExpiry ∈ (w.expire true).happened := by
  unfold Work.expire
  rw [h]
  exact ⟨rfl, rfl, rfl, by simp⟩

theorem dropHead_spec (w : Work) :
    (w.dropHead true).state = { w.state with
      journal := if w.dropsHead then w.state.journal.dropHead else w.state.journal } ∧
    (w.dropHead true).dropsHead = false ∧ (w.dropHead true).controlRecords = w.controlRecords ∧
      (w.dropHead true).happened = w.happened := by
  unfold Work.dropHead
  cases h : w.dropsHead <;> simp [h]

/-- The ENGINE record of a refused START, with the counters of the sample event (R164). -/
theorem engineRecord_refused {tb : Timebase} {t : State} (hcycle : t.timebase.cycle = tb.cycle)
    (hsample : t.timebase.sample = tb.sample) : engineRecord tb .standby .startRefused .bus =
      t.record none 0xFFFF (.engine .startRefused .standby .bus none 0) := by
  rw [State.record, hcycle, hsample]
  rfl

section
variable {i : SampleInputs} {s : State} {tr : Transaction} (hslot : s.port.slot = some tr)
  (htimer : 64 ≤ tr.timer + 1)
include hslot

theorem tickedWork_slot : (tickedWork s).state.port.slot = some { tr with timer := tr.timer + 1 } := by
  change s.port.slot.map _ = _
  rw [hslot]
  rfl

/-- The transaction in flight as the stages up to the reports leave it. -/
theorem carried_slot : ∃ ks, ((tickedWork s).carried i).state.port.slot =
    some { tr with timer := tr.timer + 1, kind := tr.kind.unwanted ks } := by
  obtain ⟨ks, h⟩ := (carried_passes (tickedWork s) i).slot
  exact ⟨ks, by rw [h, tickedWork_slot hslot]; rfl⟩

include htimer

theorem tickedWork_expired : (tickedWork s).expired = true := by
  unfold Work.expired
  rw [tickedWork_slot hslot]
  exact decide_eq_true htimer

theorem carried_expired : ((tickedWork s).carried i).expired = true := by
  obtain ⟨ks, h⟩ := carried_slot (i := i) hslot
  unfold Work.expired
  rw [h]
  exact decide_eq_true htimer

end

/-- The work of a sample event whose expiry is taken before the opening. -/
def expiredFirst (i : SampleInputs) (s : State) : Work := ((((tickedWork s).expire true).dropHead true).carried i).enqueue

/-- The work of a sample event whose expiry is taken after the reports. -/
def expiredLast (i : SampleInputs) (s : State) : Work := (((tickedWork s).carried i).expire true).enqueue.dropHead true

theorem dropHead_of_none {w : Work} (h : w.dropsHead = false) : w.dropHead true = w := by
  rw [Work.dropHead, h]
  rfl

theorem sampleWork_expiredFirst {i : SampleInputs} {s : State} (hrst : s.rstLow = false) (hfirst : i.expiryFirst = true) :
    sampleWork i s = expiredFirst i s := by
  have hkept : (expiredFirst i s).dropsHead = false :=
    (carried_passes (((tickedWork s).expire true).dropHead true) i).dropsHead.trans (dropHead_spec _).2.1
  rw [sampleWork_eq i s hrst, ← dropHead_of_none hkept]
  unfold Work.close Work.settle
  rw [hfirst, Bool.not_true, expire_false]
  rfl

theorem sampleWork_expiredLast {i : SampleInputs} {s : State} (hrst : s.rstLow = false) (hlast : i.expiryFirst = false) :
    sampleWork i s = expiredLast i s := by
  rw [sampleWork_eq i s hrst]
  unfold Work.close Work.settle
  rw [hlast, Bool.not_false, expire_false]
  rfl

/-- A control record of the work is posted when its records join the queue. -/
theorem enqueue_holds {w : Work} {r : Record} (h : r ∈ w.controlRecords) :
    journalHolds w.state.journal w.enqueue.state.journal r :=
  postAll_journalHolds _ _ r (by simp [Work.ordered, h])

section
variable {i : SampleInputs} {s : State} {tr : Transaction} (hslot : s.port.slot = some tr)
  (htimer : 64 ≤ tr.timer + 1)
include hslot htimer

theorem expiryOutcome_first : s.ExpiryOutcome tr (expiredFirst i s).state ∧
    Happening.busWaitExpiry ∈ (expiredFirst i s).happened := by
  have hticked := tickedWork_slot hslot
  obtain ⟨hstate, hrecords, hdrops, hhappened⟩ := expire_spec (tickedWork_expired hslot htimer)
  obtain ⟨hdropped, -, hkept, hsame⟩ := dropHead_spec ((tickedWork s).expire true)
  have hdropsHead : ((tickedWork s).expire true).dropsHead = (!tr.orphan && tr.kind.isRecord) := by
    rw [hdrops, fail_dropsHead hticked]
    rfl
  rw [hstate] at hdropped
  rw [hrecords] at hkept
  have hpass := carried_passes (((tickedWork s).expire true).dropHead true) i
  generalize hcarried : (((tickedWork s).expire true).dropHead true).carried i = v at hpass
  have hfinal : expiredFirst i s = v.enqueue := by rw [expiredFirst, hcarried]
  rw [hfinal]
  have hjournal : v.state.journal = if !tr.orphan && tr.kind.isRecord then s.journal.dropHead else s.journal := by
    rw [hpass.journal, hdropped, hdropsHead, State.fail_journal]
    rfl
  refine ⟨⟨?_, ?_, ?_, ?_, ?_⟩, ?_⟩
  · obtain ⟨ks, hpassed⟩ := hpass.slot
    rw [Work.enqueue_port, hpassed, hdropped]
    change Option.map _ (tickedWork s).state.fail.state.port.slot = none
    rw [fail_frees hticked]
    rfl
  · rw [Work.enqueue_port, hpass.counts, hdropped]
    exact (fail_counts hticked).trans (counts_failed (p := (tickedWork s).state.port) (q := s.port) rfl _ _)
  · rw [Work.enqueue_window, hpass.window.2, hdropped]
    exact (fail_bus hticked).trans rfl
  · intro horphan hload hengine hprogress
    obtain ⟨hcontrol, hrun, hposts⟩ := fail_load hticked horphan hload
    have hbefore : (((tickedWork s).expire true).dropHead true).state.control = { s.control with engine := .standby } := by
      rw [hdropped]
      exact hcontrol
    refine ⟨?_, hpass.window.1.2 _ (by rw [hdropped]; exact hrun), ?_⟩
    · rw [Work.enqueue_control, ← hcarried, carried_engine (by rw [hbefore]; exact hprogress) (by rw [hbefore]; exact .inl rfl),
        hbefore]
    · have hmember : engineRecord (tickedWork s).state.timebase .standby .startRefused .bus ∈ v.controlRecords := by
        refine hpass.records ?_
        rw [hkept, hposts]
        exact List.mem_append_right _ (.head _)
      have hholds := enqueue_holds hmember
      rw [hjournal, isRecord_of_load hload, Bool.and_false] at hholds
      rw [posted_iff, ← engineRecord_refused (tb := (tickedWork s).state.timebase) (t := v.enqueue.state)
        (hpass.cycle.trans (by rw [hdropped]; simp))
        (hpass.sample.trans (by rw [hdropped]; simp))]
      exact hholds
  · intro horphan hrecord head rest hqueue hlength hcount
    have hqueued : v.enqueue.state.journal = s.journal.dropHead.postAll v.ordered := by
      rw [Work.enqueue, hjournal, horphan, hrecord]
      rfl
    rw [hqueued]
    exact (dropHead_posted hqueue hlength hcount v.ordered).1
  · refine hpass.happened ?_
    rw [hsame]
    exact hhappened

theorem expiryOutcome_last : s.ExpiryOutcome tr (expiredLast i s).state ∧
    Happening.busWaitExpiry ∈ (expiredLast i s).happened := by
  obtain ⟨ks, hcarried⟩ := carried_slot (i := i) hslot
  have hpass := carried_passes (tickedWork s) i
  obtain ⟨hstate, hrecords, hdrops, hhappened⟩ := expire_spec (carried_expired (i := i) hslot htimer)
  obtain ⟨hdropped, -, -, hsame⟩ := dropHead_spec (((tickedWork s).carried i).expire true).enqueue
  rw [← expiredLast] at hdropped hsame
  have hengines := carried_engine (w := tickedWork s) (i := i)
  generalize (tickedWork s).carried i = v at *
  obtain ⟨hcounts, hload, hrecord⟩ := unwanted_kept ks tr.kind v.state.port
  have hjournal : (v.expire true).state.journal = s.journal := by
    rw [hstate, State.fail_journal, hpass.journal]
    rfl
  have hdropsHead : (v.expire true).enqueue.dropsHead = (!tr.orphan && tr.kind.isRecord) := by
    refine hdrops.trans ?_
    rw [fail_dropsHead hcarried, hpass.dropsHead, ← hrecord]
    rfl
  have hfinal : (expiredLast i s).state.journal =
      if !tr.orphan && tr.kind.isRecord then (s.journal.postAll (v.expire true).ordered).dropHead
      else s.journal.postAll (v.expire true).ordered := by
    rw [hdropped, hdropsHead, Work.enqueue, hjournal]
  refine ⟨⟨?_, ?_, ?_, ?_, ?_⟩, ?_⟩
  · rw [hdropped]
    change (v.expire true).state.port.slot = none
    rw [hstate, fail_frees hcarried]
  · rw [hdropped]
    change (v.expire true).state.port.counts = _
    rw [hstate, fail_counts hcarried]
    dsimp only
    rw [hcounts]
    exact counts_failed (q := s.port) hpass.counts _ _
  · rw [hdropped]
    change (v.expire true).state.window.has .bus = _
    rw [hstate, fail_bus hcarried, hpass.window.2]
    rfl
  · intro horphan hkind hengine hprogress
    obtain ⟨hcontrol, hrun, hposts⟩ := fail_load hcarried horphan (hload.trans hkind)
    have hmember : engineRecord v.state.timebase .standby .startRefused .bus ∈ (v.expire true).controlRecords := by
      rw [hrecords, hposts]
      exact List.mem_append_right _ (.head _)
    have hholds := enqueue_holds hmember
    rw [isRecord_of_load hkind, Bool.and_false] at hfinal
    refine ⟨?_, ?_, ?_⟩
    · rw [hdropped]
      change (v.expire true).state.control.engine = _
      rw [hstate, hcontrol]
    · rw [hdropped]
      change (v.expire true).state.window.has .run = _
      rw [hstate, hrun]
    · have htimebase : (expiredLast i s).state.timebase = v.state.timebase := by
        rw [hdropped]
        exact Work.expire_timebase v true
      rw [posted_iff, ← engineRecord_refused (tb := v.state.timebase) (t := (expiredLast i s).state)
        (by rw [htimebase]) (by rw [htimebase]), hfinal]
      rw [Work.enqueue, hjournal] at hholds
      exact hholds
  · intro horphan hkind head rest hqueue hlength hcount
    rw [hfinal, horphan, hkind]
    exact (dropHead_posted hqueue hlength hcount _).2
  · rw [hsame]
    exact hhappened

end

/-- A wanted fetch for the current slot that expires before the opening halts its lane. -/
theorem expiredFirst_fetch {i : SampleInputs} {s : State} {tr : Transaction} {k : LaneId} {f : Fetch}
    (hslot : s.port.slot = some tr) (htimer : 64 ≤ tr.timer + 1) (horphan : tr.orphan = false)
    (hkind : tr.kind = .laneFetch k f true) (hfetching : (getLane s.lanes k).state = .fetching)
    (hrelease : s.releaseDue = false) :
    (getLane (expiredFirst i s).state.lanes k).state = .halted ∧ (expiredFirst i s).state.window.has .plan = true := by
  obtain ⟨hhalted, hplan, hcontrol⟩ := fail_fetch (tickedWork_slot hslot) horphan hkind hfetching
  have hstate := (expire_spec (tickedWork_expired hslot htimer)).1
  refine ⟨?_, ?_⟩
  · rw [expiredFirst, Work.enqueue_lanes]
    refine carried_halted ?_ (by rw [Work.dropHead_out_released, Work.expire_out_released]; rfl) ?_
    · rw [Work.dropHead_lanes, hstate]
      exact hhalted
    · rw [releaseDue_congr (b := s) (by rw [Work.dropHead_control, hstate, hcontrol]; rfl)]
      exact hrelease
  · rw [expiredFirst, Work.enqueue_window]
    refine (carried_passes _ i).window.1.2 _ ?_
    rw [Work.dropHead_window, hstate]
    exact hplan

/-- The work of a sample event at which the transaction in flight expires, in either order. -/
theorem sampleWork_expiryOutcome {i : SampleInputs} {s : State} {tr : Transaction} (hrst : s.rstLow = false)
    (hslot : s.port.slot = some tr) (htimer : 64 ≤ tr.timer + 1) :
    s.ExpiryOutcome tr (sampleWork i s).state ∧ Happening.busWaitExpiry ∈ (sampleWork i s).happened := by
  cases horder : i.expiryFirst with
  | true =>
    rw [sampleWork_expiredFirst hrst horder]
    exact expiryOutcome_first hslot htimer
  | false =>
    rw [sampleWork_expiredLast hrst horder]
    exact expiryOutcome_last hslot htimer

/-- Settles O29, by the outcome of the expiry in its two orders. -/
theorem busWaitExpiryEndsTheTransaction : Obligations.BusWaitExpiryEndsTheTransaction := by
  intro i s tr hrst hslot htimer
  obtain ⟨⟨hfree, hcounts, hbus, hload, hhead⟩, hhappened⟩ := sampleWork_expiryOutcome (i := i) hrst hslot htimer
  obtain ⟨hposted, htaken, hwritten, hread, hbase⟩ := failed_kept hcounts
  refine ⟨_, sampleRow_of_happened .busWaitExpiry i s hhappened, rfl, hfree, hposted, htaken, hwritten, hread, hbase, hbus,
    fun horphan => ?_⟩
  rw [horphan] at hcounts
  obtain ⟨howed, hrequest, htakenOwed, htakenRequest⟩ := requests_of_counts (p := s.port.failedBy tr.kind) hcounts
  refine ⟨fun hk => hload horphan (isLoad_of hk), fun d head rest hk => hhead horphan (by rw [hk]; rfl) head rest, ?_, ?_, ?_,
    fun k f hk hfirst hfetching hrelease => ?_⟩
  · rintro (hk | hk)
    all_goals
      rw [hk] at howed hrequest
      exact ⟨howed, hrequest⟩
  · intro k v hk
    rw [hk] at htakenOwed htakenRequest
    exact ⟨htakenOwed, htakenRequest⟩
  · intro hk
    rw [hk] at hrequest htakenRequest
    refine ⟨hrequest, fun k => ?_⟩
    rw [htakenRequest, Port.failedBy, Port.requestOwed, getLane_tabLane]
  · rw [sampleWork_expiredFirst hrst hfirst]
    exact expiredFirst_fetch hslot htimer horphan hk hfetching hrelease

end Sys2Proof.Machine
end
